-- ==== Sys2Proof/Word.lean ====
section
/-! DEFINITION. The byte of the control port (10_control_port_and_events.md R168) and the three colour components. -/

namespace Sys2Proof

/-- Eight bits: one byte of the control port, one event byte, one set of screens, one colour component. -/
abbrev Byte := BitVec 8

/-- A colour: three 8-bit components (00_scope.md, Conventions). -/
structure Colour where
  r : Byte
  g : Byte
  b : Byte
  deriving DecidableEq, Repr

/-- Which component of a colour: colour arithmetic is carried out on each separately (00_scope.md, Conventions). -/
inductive Component where
  | red
  | green
  | blue
  deriving DecidableEq, Repr

/-- A component as the number the composition computes with. -/
def Colour.component (c : Colour) : Component → Nat
  | .red => c.r.toNat
  | .green => c.g.toNat
  | .blue => c.b.toNat

end Sys2Proof
end

