-- ==== Sys2Proof/Config.lean ====
section
/-! DEFINITION. What is fixed for the part: its identity codes (11_control_port_formats.md, IDENTIFY) and the principal figures of
00_scope.md. The spec leaves no value to each implementation, so there is no free value here. -/

namespace Sys2Proof.Config

/-- The vendor code of Pelkaz (11, READ responses, IDENTIFY). -/
def vendorCode : Byte := 0xC7#8

/-- The part code of the LW1208, two bytes (11, IDENTIFY). -/
def partCode : Nat := 0x04B8

/-- The revision this manual specifies (11, IDENTIFY). -/
def revision : Byte := 0x01#8

/-- Largest entry count of a carousel (R136) and of a scene (R152). -/
def maxCarouselEntries : Nat := 8
def maxSceneEntries : Nat := 16

/-- Accepted feed frame sizes: width 64 to 1920, height 64 to 1080 (R99). -/
def minFrameSide : Nat := 64
def maxFrameWidth : Nat := 1920
def maxFrameHeight : Nat := 1080

/-- The counts of pixels and of lines stop at 4095 (R99). -/
def measureLimit : Nat := 4095

end Sys2Proof.Config
end

