-- ==== Sys2Proof/Syntax.lean ====
section
/-! DEFINITION. The commands and events of the LW1208: one constructor of `Instr` per row of spec/opcode_table.json. The 34 rows of
the control port carry the argument bytes that follow their opcode byte (11_control_port_formats.md 11.1, 11.6); the event rows carry
the record they are about. -/

namespace Sys2Proof

/-- A window handle 0-63 (R1). -/
abbrev Handle := Fin 64
/-- A screen 0-7 (R79). -/
abbrev ScreenId := Fin 8
/-- An input 0-11 (R97). -/
abbrev InputId := Fin 12
/-- A frame-store slot of an input, 0-2 (R106). -/
abbrev SlotId := Fin 3
/-- A carousel 0-15 (R134). -/
abbrev CarouselId := Fin 16
/-- A scene 0-15 (R151). -/
abbrev SceneId := Fin 16
/-- A key 0-7 (R160). -/
abbrev KeyId := Fin 8

/-- The pixels of a frame: its lines from row 0, each from column 0. -/
abbrev Pixels := List (List Colour)

/-- What a feed delivers of a frame, from its frame start on or from where the last delivery left off (R99): the pixels of each line
that its line marker ended, and the pixels that arrived after the last line marker. -/
structure FeedFrame where
  lines : Pixels
  trailing : List Colour
  deriving DecidableEq, Repr

/-- A frame start of a feed: its input, and what the feed delivers of the frame before the next event at the input (log 13). -/
structure FeedStart where
  input : InputId
  pixels : FeedFrame
  deriving DecidableEq, Repr

/-- An event that comes about at a scan tick: the tick at one input (R104), one key's sample (R161), or the dwell tick that the scan
tick completes (R133). SCAN_TICK names some of them in the order in which the part takes them (log 5). -/
inductive TickPart where
  | loss (i : InputId)
  | key (k : KeyId)
  | dwell
  deriving DecidableEq, Repr

/-- The command codes of the control port (11_control_port_formats.md 11.1). -/
inductive Opcode where
  | identify | resetLayout
  | placeWindow | amendWindow | retireWindow | readWindow | listScreen
  | sealStage | discardStage | readStage | configureStages
  | configureScreen | startScreen | stopScreen | readScreen | probePoint | probeResult
  | configureInputs | readInput
  | setCarousel | startCarousel | stopCarousel | stepCarousel | readCarousel
  | storeScene | captureScene | clearScene | readScene | recallScene
  | bindKey | readKeys
  | readEvents | clearEvents | setEventControl
  deriving DecidableEq, Repr

/-- The commands and events the part takes, one constructor per row of spec/opcode_table.json. -/
inductive Instr where
  /-- IDENTIFY (R176): no argument bytes. -/
  | identify
  /-- RESET LAYOUT (R177): no argument bytes. -/
  | resetLayout
  /-- PLACE WINDOW (R17): the 34 bytes of a window record. -/
  | placeWindow (args : List Byte)
  /-- AMEND WINDOW (R18): handle, mask (2), window record (34). -/
  | amendWindow (args : List Byte)
  /-- RETIRE WINDOW (R20): handle. -/
  | retireWindow (args : List Byte)
  /-- READ WINDOW (R21): handle, view. -/
  | readWindow (args : List Byte)
  /-- LIST SCREEN (R22): screen. -/
  | listScreen (args : List Byte)
  /-- SEAL STAGE (R30): screen. -/
  | sealStage (args : List Byte)
  /-- DISCARD STAGE (R32): screen. -/
  | discardStage (args : List Byte)
  /-- READ STAGE (R38): screen. -/
  | readStage (args : List Byte)
  /-- CONFIGURE STAGES (R34): expiry setting. -/
  | configureStages (args : List Byte)
  /-- CONFIGURE SCREEN (R81): screen, format, rate, R, G, B, idle limit, keypad lock. -/
  | configureScreen (args : List Byte)
  /-- START SCREEN (R83): screen. -/
  | startScreen (args : List Byte)
  /-- STOP SCREEN (R84): screen. -/
  | stopScreen (args : List Byte)
  /-- READ SCREEN (R85): screen. -/
  | readScreen (args : List Byte)
  /-- PROBE POINT (R92): screen, x (2), y (2). -/
  | probePoint (args : List Byte)
  /-- PROBE RESULT (R94): screen. -/
  | probeResult (args : List Byte)
  /-- CONFIGURE INPUTS (R112): loss timeout, set of inputs (2). -/
  | configureInputs (args : List Byte)
  /-- READ INPUT (R113): input. -/
  | readInput (args : List Byte)
  /-- SET CAROUSEL (R136): carousel, mode, skip-absent, clock, followed carousel, count, entries of 3 bytes. -/
  | setCarousel (args : List Byte)
  /-- START CAROUSEL (R139): carousel. -/
  | startCarousel (args : List Byte)
  /-- STOP CAROUSEL (R140): carousel. -/
  | stopCarousel (args : List Byte)
  /-- STEP CAROUSEL (R146): carousel. -/
  | stepCarousel (args : List Byte)
  /-- READ CAROUSEL (R148): carousel. -/
  | readCarousel (args : List Byte)
  /-- STORE SCENE (R152): scene, set of covered screens, count, entries of 34 bytes. -/
  | storeScene (args : List Byte)
  /-- CAPTURE SCENE (R154): scene, set of screens. -/
  | captureScene (args : List Byte)
  /-- CLEAR SCENE (R155): scene. -/
  | clearScene (args : List Byte)
  /-- READ SCENE (R155): scene. -/
  | readScene (args : List Byte)
  /-- RECALL SCENE (R156 to R158): scene. -/
  | recallScene (args : List Byte)
  /-- BIND KEY (R165): key, enabled, mode, action, scene or carousel number. -/
  | bindKey (args : List Byte)
  /-- READ KEYS (R166): no argument bytes. -/
  | readKeys
  /-- READ EVENTS (R182): no argument bytes. -/
  | readEvents
  /-- CLEAR EVENTS (R183): selection, an event byte. -/
  | clearEvents (args : List Byte)
  /-- SET EVENT CONTROL (R185): enable mask, line mode, clear mode, INPUT sensitivity. -/
  | setEventControl (args : List Byte)
  /-- An opcode byte that names no command (R172). -/
  | badOpcode (opcode : Byte)
  /-- The falling edge of chip select (R168). -/
  | transactionBegin
  /-- The rising edge of chip select (R168, R171). -/
  | transactionEnd
  /-- Assertion of the reset pin (R174). -/
  | pinReset
  /-- Release of the reset pin (R174). -/
  | resetPinRelease
  /-- The frame memory does not read back what was written (R174). -/
  | initialisationRestart
  /-- The initialisation ends (R175). -/
  | initialisationEnd
  /-- A scan tick (R132): the level of each key line, bit k set for a high line k (R161), and the events of the tick that the part
  takes first, in that order (log 5). -/
  | scanTick (first : List TickPart) (lines : Byte)
  /-- The scan tick at one input whose loss count reaches the loss timeout (R104). -/
  | lossTimeout (i : InputId)
  /-- The third consecutive low sample of a RELEASED key (R161, R162). -/
  | keyPress (k : KeyId)
  /-- The third consecutive high sample of a PRESSED key (R161, R162). -/
  | keyRelease (k : KeyId)
  /-- The scan tick at a PRESSED key whose repeat count reaches 50 (R162). -/
  | keyRepeat (k : KeyId)
  /-- A dwell tick (R133). -/
  | dwellTick
  /-- The dwell tick at one RUNNING TIMER carousel whose remaining field reaches 0 (R142, R143). -/
  | carouselAdvance (c : CarouselId)
  /-- The dwell tick at one OPEN(LINK) stage whose count reaches the setting (R35). -/
  | stageExpiry (k : ScreenId)
  /-- The frame start at one HOLDING window whose hold count has reached its limit (R124). -/
  | holdEnd (h : Handle)
  /-- A minute (R133). -/
  | minute
  /-- The minute at one RUNNING screen whose idle count reaches its idle limit (R90). -/
  | standbyEntry (k : ScreenId)
  /-- A frame start of a screen (R86). -/
  | frameStart (k : ScreenId)
  /-- The frame start at one window whose transition showed its last step (R66). -/
  | transitionEnd (h : Handle)
  /-- A frame start of a feed (R100) and the pixels delivered after it (R99; log 13). -/
  | feedFrameStart (start : FeedStart)
  /-- A frame end of a feed (R101, R102) and the pixels delivered before it that its frame start did not carry (log 13). -/
  | feedFrameEnd (i : InputId) (frame : FeedFrame)
  /-- Two reference cycles after the last clear-to-set change of an enabled flag (R181). -/
  | pulseEnd
  deriving DecidableEq, Repr

end Sys2Proof
end

