-- ==== Sys2Proof/Machine/State.lean ====
section
/-! DEFINITION. Every record the LW1208 keeps, as plain data, the result codes, the reasons a step can stop, and the part right after
pin reset. A record's parts that exist only in some of its states stand in the constructors of those states (log 18), so that a value
here is a record the spec allows. -/

namespace Sys2Proof.Machine

/-! ### The window table (chapter 1) -/

/-- An output rectangle by its inclusive corners, each coordinate clamped to 0-4095 (R6). -/
structure Rect where
  x0 : Fin 4096
  y0 : Fin 4096
  x1 : Fin 4096
  y1 : Fin 4096
  deriving DecidableEq, Repr

/-- Crop origin and size in source pixels; a size of 0 means the whole source in that axis (R8). -/
structure Crop where
  cx : Fin 4096
  cy : Fin 4096
  cw : Fin 4096
  ch : Fin 4096
  deriving DecidableEq, Repr

/-- Source kind and number (R7): the number of a SLATE window is absent. -/
inductive Source where
  | input (i : InputId)
  | carousel (c : CarouselId)
  | slate
  deriving DecidableEq, Repr

/-- Loss policy with the field it uses (R10): the fields a policy does not use are absent. -/
inductive LossPolicy where
  | hold (limit : Nat)
  | slate
  | substitute (i : InputId)
  deriving DecidableEq, Repr

/-- The fields of a live copy, of a pending copy and of a scene entry (section 1.3, R151). -/
structure WindowFields where
  screen : ScreenId
  layer : Fin 16
  rect : Rect
  source : Source
  crop : Crop
  opacity : Fin 65
  borderWidth : Fin 16
  borderColour : Colour
  slateColour : Colour
  loss : LossPolicy
  fade : Fin 64
  pinned : Bool
  deriving DecidableEq, Repr

/-- What a shown window shows (R115). -/
inductive DisplayMode where
  | feed
  | holding
  | substituted
  | slated
  | colour
  deriving DecidableEq, Repr

/-- The parts that chapter 7 keeps of a shown window: display mode, effective input, hold count (R115). -/
structure View where
  mode : DisplayMode
  effective : Option InputId
  hold : Nat
  deriving DecidableEq, Repr

/-- A transition of a LIVE window (R64): a FADE-OUT runs only on a RETIRING window (R68). -/
inductive LiveTransition where
  | fadeIn (k n : Nat)
  | crossfade (k n : Nat) (source : Option InputId)
  deriving DecidableEq, Repr

/-- The FADE-OUT of a RETIRING window: step, length and starting weight (R64, R68). -/
structure FadeOut where
  k : Nat
  n : Nat
  t0 : Nat
  deriving DecidableEq, Repr

/-- The pending work of a LIVE window: none, a pending copy, or a retire mark; at most one of the two (R3). -/
inductive Work where
  | none
  | amended (pending : WindowFields)
  | retire
  deriving DecidableEq, Repr

/-- One window record (R1, R3). -/
inductive Window where
  | free
  | staged (pending : WindowFields)
  | live (copy : WindowFields) (work : Work) (view : View) (transition : Option LiveTransition)
  | retiring (copy : WindowFields) (view : View) (fade : FadeOut)
  deriving DecidableEq, Repr

/-! ### Stages (chapter 2) -/

/-- The author of an edit. -/
inductive Party where
  | link
  | panel
  deriving DecidableEq, Repr

/-- One stage record: an owner exists only while OPEN or SEALED, and the count of an EMPTY stage is 0 (R25). -/
inductive Stage where
  | empty
  | opened (owner : Party) (count : Nat)
  | sealed (owner : Party) (count : Nat)
  deriving DecidableEq, Repr

/-! ### The frame plan (chapter 3) -/

/-- A pinned slot as a picture: the slot, its size tag, the resolved crop and the scale steps (R52 to R54). -/
structure SlotPicture where
  input : InputId
  slot : SlotId
  sw : Nat
  sh : Nat
  cx : Nat
  cy : Nat
  cw : Nat
  ch : Nat
  h : Nat
  v : Nat
  deriving DecidableEq, Repr

/-- A picture is a plain colour or a pinned slot (R51). -/
inductive Picture where
  | plain (c : Colour)
  | slot (p : SlotPicture)
  deriving DecidableEq, Repr

/-- The from-side of a cross-fade in the plan: its weight in this frame and its picture (R58). -/
structure FromSide where
  weight : Nat
  picture : Picture
  deriving DecidableEq, Repr

/-- A corner pair in raster coordinates: the clipped rectangle of a plan entry (R49). -/
structure Clip where
  x0 : Nat
  y0 : Nat
  x1 : Nat
  y1 : Nat
  deriving DecidableEq, Repr

/-- One entry of a plan's window list (R45). -/
structure PlanWindow where
  handle : Handle
  layer : Fin 16
  rect : Rect
  clip : Option Clip
  borderWidth : Nat
  borderColour : Colour
  opacity : Nat
  mode : DisplayMode
  picture : Picture
  fromSide : Option FromSide
  deriving DecidableEq, Repr

/-- A frame plan: raster, background and window list in ascending stacking key (R45). -/
structure Plan where
  width : Nat
  height : Nat
  background : Colour
  windows : List PlanWindow
  deriving DecidableEq, Repr

/-! ### Screens (chapter 5) -/

inductive ScreenMode where
  | off
  | running
  | standby
  deriving DecidableEq, Repr

inductive Format where
  | fhd
  | hd
  deriving DecidableEq, Repr

inductive Rate where
  | r50
  | r60
  deriving DecidableEq, Repr

inductive PointKind where
  | border
  | picture
  deriving DecidableEq, Repr

inductive ProbeOutcome where
  | none
  | window
  | screenOff
  deriving DecidableEq, Repr

/-- The answer fields of a probe (R93); none where the field is absent. -/
structure ProbeAnswer where
  outcome : ProbeOutcome
  handle : Option Handle
  kind : Option PointKind
  mode : Option DisplayMode
  position : Option (Nat × Nat)
  frame : BitVec 16
  deriving DecidableEq, Repr

inductive ProbeSlot where
  | empty
  | waiting (x y : Nat)
  | answered (a : ProbeAnswer)
  deriving DecidableEq, Repr

/-- One screen record (R79) and the plan of the frame being shown (R45). -/
structure Screen where
  mode : ScreenMode
  format : Format
  rate : Rate
  background : Colour
  keypadLock : Bool
  idleLimit : Fin 241
  idleCount : Nat
  frame : BitVec 16
  pins : Vector (Option SlotId) 12
  probe : ProbeSlot
  plan : Option Plan
  deriving DecidableEq, Repr

/-! ### Inputs and the frame store (chapter 6) -/

/-- A frame size. -/
structure Size where
  width : Nat
  height : Nat
  deriving DecidableEq, Repr

/-- Presence, with the confirmed size while PRESENT and the candidate size while ACQUIRING (R97). -/
inductive Presence where
  | absent
  | acquiring (candidate : Option Size)
  | present (confirmed : Size)
  deriving DecidableEq, Repr

/-- The frame in progress at an input (R97), with what the feed has delivered of it so far, which the port counts to measure the frame
(R99), UNSTORED or not (R107). -/
inductive InProgress where
  | none
  | stored (slot : SlotId) (delivered : FeedFrame)
  | unstored (delivered : FeedFrame)
  deriving DecidableEq, Repr

/-- One slot: its contents, by row and column, a pixel that they do not list being black (log 13), and its size tag (R106). -/
structure Slot where
  contents : Pixels
  tag : Size
  deriving DecidableEq, Repr

/-- One input record (R97) with its newest complete slot and its three slots (R106). -/
structure Input where
  presence : Presence
  inProgress : InProgress
  lossCount : Nat
  changed : Bool
  eventEnable : Bool
  newest : Option SlotId
  slots : Vector Slot 3
  deriving DecidableEq, Repr

/-! ### Timebase and carousels (chapter 8) -/

/-- Pattern phase 0-24, cycle count, scan-tick count 0-9, dwell-tick count 0-599 (R132). -/
structure Timebase where
  phase : Nat
  cycles : Nat
  scanTicks : Nat
  dwellTicks : Nat
  deriving DecidableEq, Repr

inductive CarouselMode where
  | loop
  | once
  deriving DecidableEq, Repr

inductive CarouselState where
  | stopped
  | running
  | ended
  deriving DecidableEq, Repr

inductive Request where
  | none
  | start
  | stop
  deriving DecidableEq, Repr

inductive Clock where
  | timer
  | follow (k : CarouselId)
  deriving DecidableEq, Repr

structure Entry where
  input : InputId
  dwell : Nat
  deriving DecidableEq, Repr

/-- One carousel record (R134). -/
structure Carousel where
  state : CarouselState
  request : Request
  mode : CarouselMode
  skipAbsent : Bool
  clock : Clock
  entries : List Entry
  index : Nat
  remaining : Nat
  deriving DecidableEq, Repr

/-! ### Scenes and keys (chapter 9) -/

/-- One scene record: the set of covered screens (bit s for screen s) and the entries (R151). -/
structure Scene where
  covered : Byte
  entries : List WindowFields
  deriving DecidableEq, Repr

/-- The result codes (R186, R194). -/
inductive ResultCode where
  | ok | pending | notReady | badOpcode | badArgument | badGeometry | freeHandle | noHandles
  | stageHeld | stageSealed | stageEmpty | screenOff | screenRunning | retiring
  | carouselBusy | carouselEmpty | carouselEnded | chainLoop | sceneEmpty | sceneFull
  | probeBusy | noProbe | refused
  deriving DecidableEq, Repr

inductive KeyMode where
  | press
  | repeating
  deriving DecidableEq, Repr

inductive Action where
  | none
  | recall (n : SceneId)
  | step (c : CarouselId)
  | toggle (c : CarouselId)
  deriving DecidableEq, Repr

/-- A key's last outcome: NONE, DONE, PARTIAL or the code of a refusal (R160). -/
inductive KeyOutcome where
  | none
  | done
  | partly
  | refusal (code : ResultCode)
  deriving DecidableEq, Repr

/-- One key record (R160). -/
structure Key where
  enabled : Bool
  mode : KeyMode
  action : Action
  outcome : KeyOutcome
  pressed : Bool
  disagreement : Nat
  repeatCount : Nat
  acted : Bool
  deriving DecidableEq, Repr

/-! ### Control port and event unit (chapter 10) -/

/-- Where the current transaction stands (section 10.1). -/
inductive Phase where
  | noTransaction
  | receiving
  | sending
  | filler
  deriving DecidableEq, Repr

/-- The control port: the bytes of the command received so far, the result code and response bytes still to be shifted out, and the
bytes that data-out has carried in this transaction (R168 to R171). -/
structure Port where
  phase : Phase
  received : List Byte
  response : List Byte
  dataOut : List Byte
  deriving DecidableEq, Repr

/-- Start-up (R174, R175): the reset pin is asserted, the frame memory is being initialised, the part is ready. -/
inductive Startup where
  | held
  | initialising
  | ready
  deriving DecidableEq, Repr

inductive LineMode where
  | level
  | pulse
  deriving DecidableEq, Repr

inductive ClearMode where
  | readClears
  | writeClears
  deriving DecidableEq, Repr

inductive Sensitivity where
  | edge
  | level
  deriving DecidableEq, Repr

/-- The event unit (R178): flags and enable mask as event bytes (R193), the three modes, and the reference cycles left of the
attention pulse (R181). -/
structure EventUnit where
  flags : Byte
  mask : Byte
  lineMode : LineMode
  clearMode : ClearMode
  sensitivity : Sensitivity
  pulseLeft : Nat
  deriving DecidableEq, Repr

/-- The whole part, and the queue of commands and events that are waiting, first in first out. `keyLines` is the key-line pins (R161):
the levels that the last scan tick found, bit k set for a high line k (log 22). -/
structure State where
  pending : List Instr
  startup : Startup
  port : Port
  windows : Vector Window 64
  stages : Vector Stage 8
  expirySetting : Nat
  screens : Vector Screen 8
  inputs : Vector Input 12
  lossTimeout : Nat
  timebase : Timebase
  carousels : Vector Carousel 16
  scenes : Vector Scene 16
  keys : Vector Key 8
  keyLines : Byte
  events : EventUnit
  deriving DecidableEq, Repr

/-- Why a step could stop with a fault. The part has no fault: what it refuses, it answers with a result code (R186; log 21). -/
inductive Fault where
  deriving DecidableEq, Repr

/-- Why a step could be refused. -/
inductive Refusal where
  /-- A row that has no meaning in the model yet. Safe: the model stops where the part goes on. No arm of exec answers it. -/
  | notModelled (mnemonic : String)
  deriving DecidableEq, Repr

/-! ### The records after pin reset -/

/-- R79. -/
def Screen.reset : Screen where
  mode := .off
  format := .fhd
  rate := .r60
  background := ⟨0, 0, 0⟩
  keypadLock := false
  idleLimit := 0
  idleCount := 0
  frame := 0
  pins := Vector.replicate 12 none
  probe := .empty
  plan := none

/-- R97, R106; contents and size tags are not used before a frame is confirmed, and are a black frame and 0 x 0 here (log 13). -/
def Input.reset : Input where
  presence := .absent
  inProgress := .none
  lossCount := 0
  changed := false
  eventEnable := false
  newest := none
  slots := Vector.replicate 3 ⟨[], ⟨0, 0⟩⟩

/-- R134. -/
def Carousel.reset : Carousel where
  state := .stopped
  request := .none
  mode := .loop
  skipAbsent := false
  clock := .timer
  entries := []
  index := 0
  remaining := 0

/-- R160. -/
def Key.reset : Key where
  enabled := false
  mode := .press
  action := .none
  outcome := .none
  pressed := false
  disagreement := 0
  repeatCount := 0
  acted := false

/-- R174: no transaction. -/
def Port.idle : Port where
  phase := .noTransaction
  received := []
  response := []
  dataOut := []

/-- R178, R193: flags 00h, mask 01h. -/
def EventUnit.reset : EventUnit where
  flags := 0x00#8
  mask := 0x01#8
  lineMode := .level
  clearMode := .readClears
  sensitivity := .edge
  pulseLeft := 0

/-- The part right after pin reset, the reset pin still asserted (R174; log 1). -/
def State.reset : State where
  pending := []
  startup := .held
  port := Port.idle
  windows := Vector.replicate 64 .free
  stages := Vector.replicate 8 .empty
  expirySetting := 50
  screens := Vector.replicate 8 Screen.reset
  inputs := Vector.replicate 12 Input.reset
  lossTimeout := 10
  timebase := ⟨0, 0, 0, 0⟩
  carousels := Vector.replicate 16 Carousel.reset
  scenes := Vector.replicate 16 ⟨0, []⟩
  keys := Vector.replicate 8 Key.reset
  keyLines := 0xFF#8
  events := EventUnit.reset

end Sys2Proof.Machine
end

