-- ==== Sys2Proof/Machine/Pixels.lean ====
section
/-! DEFINITION. The contents of a slot of the frame store as pixels by column and row (R52, R99, R106): reading one, writing those of a
frame over those that stand there, and the one form in which contents are kept. -/

namespace Sys2Proof.Machine

/-- What a pixel reads as that contents do not list (log 13). -/
def blankPixel : Colour := ⟨0x00#8, 0x00#8, 0x00#8⟩

/-- The value stored for a column and a row of a slot (R52). The sampler reads only columns and rows of the frame (R56). -/
def pixelAt (contents : Pixels) (column row : Nat) : Colour :=
  ((contents[row]?.getD [])[column]?).getD blankPixel

/-- A row without the blank pixels at its end. -/
def trimRow : List Colour → List Colour
  | [] => []
  | p :: ps =>
    match trimRow ps with
    | [] => if p = blankPixel then [] else [p]
    | q :: qs => p :: q :: qs

/-- Contents without blank pixels at the end of a row and without empty rows at the end: the one form of the same pixels. -/
def trimRows : Pixels → Pixels
  | [] => []
  | l :: ls =>
    match trimRows ls with
    | [] => if trimRow l = [] then [] else [trimRow l]
    | m :: ms => trimRow l :: m :: ms

/-- A row written over another from column 0. -/
def overlayRow (new old : List Colour) : List Colour := new ++ old.drop new.length

/-- Rows written over others from row 0. -/
def overlay : Pixels → Pixels → Pixels
  | [], old => old
  | n :: ns, [] => n :: ns
  | n :: ns, o :: os => overlayRow n o :: overlay ns os

/-- The pixels of a frame put into a slot at their columns and rows; the slot's other pixels stay (R99, R108). -/
def storePixels (old new : Pixels) : Pixels := trimRows (overlay new old)

/-- A row that does not end in a blank pixel and has at most 1920 columns. -/
def rowWf (l : List Colour) : Bool := decide (l.length ≤ Config.maxFrameWidth ∧ l.getLast? ≠ some blankPixel)

/-- Contents in their one form, of at most 1920 columns and 1080 rows (R99, R106). -/
def pixelsWf (contents : Pixels) : Bool :=
  decide (contents.length ≤ Config.maxFrameHeight ∧ contents.getLast? ≠ some []) && contents.all rowWf

end Sys2Proof.Machine
end

