-- ==== Sys2Proof/Machine/Flags.lean ====
section
/-! DEFINITION. The event unit: setting a flag for its cause (R179), the attention line (R180, R181), clearing flags (R182 to R184),
and the passing of reference cycles at the attention pulse. -/

namespace Sys2Proof.Machine

/-- The eight event flags (R178). -/
inductive Flag where
  | ready | input | key | expired | probe | carousel | standby | slated
  deriving DecidableEq, Repr

/-- The place of a flag in the event byte (R193). -/
def Flag.bit : Flag → Nat
  | .ready => 0
  | .input => 1
  | .key => 2
  | .expired => 3
  | .probe => 4
  | .carousel => 5
  | .standby => 6
  | .slated => 7

/-- The event byte with one flag's bit set. -/
def Flag.byte (f : Flag) : Byte := BitVec.twoPow 8 f.bit

def EventUnit.isSet (e : EventUnit) (f : Flag) : Bool := e.flags.getLsbD f.bit

def EventUnit.isEnabled (e : EventUnit) (f : Flag) : Bool := e.mask.getLsbD f.bit

/-- The length of an attention pulse in reference cycles (R181). -/
def pulseCycles : Nat := 2

/-- A cause sets its flag whatever the enable mask (R179). A change from clear to set of an enabled flag in line mode PULSE starts the
pulse, or restarts its length (R181). -/
def EventUnit.raise (e : EventUnit) (f : Flag) : EventUnit :=
  if e.isSet f then e
  else
    { e with
      flags := e.flags ||| f.byte
      pulseLeft := if e.lineMode = .pulse ∧ e.isEnabled f then pulseCycles else e.pulseLeft }

/-- Clears the selected flags, but for INPUT while its clear is held (R183, R184). -/
def EventUnit.clear (e : EventUnit) (selection : Byte) (inputHeld : Bool) : EventUnit :=
  let acting := if inputHeld then selection &&& ~~~Flag.input.byte else selection
  { e with flags := e.flags &&& ~~~acting }

/-- The attention line is asserted: some flag is set and enabled in LEVEL (R180), a pulse is being driven in PULSE (R181). -/
def EventUnit.attention (e : EventUnit) : Bool :=
  match e.lineMode with
  | .level => e.flags &&& e.mask != 0#8
  | .pulse => decide (0 < e.pulseLeft)

/-- Replaces the four settings (R185). A change of line mode ends any pulse, and gives none for the flags already set (R181). -/
def EventUnit.configure (e : EventUnit) (mask : Byte) (line : LineMode) (clear : ClearMode) (sensitivity : Sensitivity) : EventUnit :=
  { e with
    mask := mask
    lineMode := line
    clearMode := clear
    sensitivity := sensitivity
    pulseLeft := if e.lineMode = line then e.pulseLeft else 0 }

/-- Reference cycles pass at the pulse: it ends when the last of its cycles has passed (R181). -/
def EventUnit.pass (e : EventUnit) (cycles : Nat) : EventUnit :=
  { e with pulseLeft := e.pulseLeft - cycles }

/-- The attention line of the part. -/
def State.attention (s : State) : Bool := s.events.attention

/-- A cause is raised to the event unit (R179). -/
def State.raise (s : State) (f : Flag) : State := { s with events := s.events.raise f }

/-- Raises a cause when it came about. -/
def State.raiseIf (s : State) (b : Bool) (f : Flag) : State := if b then s.raise f else s

end Sys2Proof.Machine
end

