-- ==== Sys2Proof/Machine/Operands.lean ====
section
/-! DEFINITION. The values on the wire (11_control_port_formats.md R189 to R194): numbers, codes, the 34-byte window record, the
AMEND mask, result codes. Reading an operand answers none where the value names nothing; the command that asks says with which result
it is then refused. -/

namespace Sys2Proof.Machine

/-! ### Numbers -/

/-- Argument byte n, counted from 0. -/
def arg (args : List Byte) (n : Nat) : Byte := args.getD n 0#8

/-- The number a byte carries. -/
def num (args : List Byte) (n : Nat) : Nat := (arg args n).toNat

/-- The number two bytes carry, the first the more significant (R189). -/
def num2 (args : List Byte) (n : Nat) : Nat := num args n * 256 + num args (n + 1)

/-- A number as one byte. -/
def byte (n : Nat) : Byte := BitVec.ofNat 8 n

/-- A number as two bytes, big-endian (R189). -/
def bytes2 (n : Nat) : List Byte := [byte (n / 256), byte n]

/-- The record a byte names, of `n` records. -/
def ident (n : Nat) (b : Byte) : Option (Fin n) :=
  if h : b.toNat < n then some ⟨b.toNat, h⟩ else none

/-- A value clamped on the whole number carried (R189). -/
def clamp (most v : Nat) : Fin (most + 1) := ⟨min v most, by omega⟩

/-- A yes or no setting carried as a byte of its own: 00h or 01h (R189). -/
def yesNo (b : Byte) : Option Bool :=
  if b = 0x00#8 then some false else if b = 0x01#8 then some true else none

/-- A yes or no setting in a response. -/
def flagByte (b : Bool) : Byte := if b then 0x01#8 else 0x00#8

/-- Three bytes as a colour. -/
def colourAt (args : List Byte) (n : Nat) : Colour := ⟨arg args n, arg args (n + 1), arg args (n + 2)⟩

def Colour.bytes (c : Colour) : List Byte := [c.r, c.g, c.b]

/-- A field that names a record reads FFh when its value is none (R189, R192). -/
def orNone {n : Nat} : Option (Fin n) → Byte
  | none => 0xFF#8
  | some i => byte i

/-! ### Codes (table of R189) -/

def formatOf (b : Byte) : Option Format :=
  if b = 0x00#8 then some .fhd else if b = 0x01#8 then some .hd else none

def rateOf (b : Byte) : Option Rate :=
  if b = 50#8 then some .r50 else if b = 60#8 then some .r60 else none

def carouselModeOf (b : Byte) : Option CarouselMode :=
  if b = 0x00#8 then some .loop else if b = 0x01#8 then some .once else none

def keyModeOf (b : Byte) : Option KeyMode :=
  if b = 0x00#8 then some .press else if b = 0x01#8 then some .repeating else none

def lineModeOf (b : Byte) : Option LineMode :=
  if b = 0x00#8 then some .level else if b = 0x01#8 then some .pulse else none

def clearModeOf (b : Byte) : Option ClearMode :=
  if b = 0x00#8 then some .readClears else if b = 0x01#8 then some .writeClears else none

def sensitivityOf (b : Byte) : Option Sensitivity :=
  if b = 0x00#8 then some .edge else if b = 0x01#8 then some .level else none

def DisplayMode.code : DisplayMode → Byte
  | .feed => 0x01#8
  | .holding => 0x02#8
  | .substituted => 0x03#8
  | .slated => 0x04#8
  | .colour => 0x05#8

def ScreenMode.code : ScreenMode → Byte
  | .off => 0x00#8
  | .running => 0x01#8
  | .standby => 0x02#8

def Format.code : Format → Byte
  | .fhd => 0x00#8
  | .hd => 0x01#8

def Rate.code : Rate → Byte
  | .r50 => 50#8
  | .r60 => 60#8

def ProbeSlot.code : ProbeSlot → Byte
  | .empty => 0x00#8
  | .waiting _ _ => 0x01#8
  | .answered _ => 0x02#8

def ProbeOutcome.code : ProbeOutcome → Byte
  | .none => 0x00#8
  | .window => 0x01#8
  | .screenOff => 0x0C#8

def PointKind.code : PointKind → Byte
  | .border => 0x01#8
  | .picture => 0x02#8

def Presence.code : Presence → Byte
  | .absent => 0x00#8
  | .acquiring _ => 0x01#8
  | .present _ => 0x02#8

def CarouselState.code : CarouselState → Byte
  | .stopped => 0x00#8
  | .running => 0x01#8
  | .ended => 0x02#8

def Request.code : Request → Byte
  | .none => 0x00#8
  | .start => 0x01#8
  | .stop => 0x02#8

def CarouselMode.code : CarouselMode → Byte
  | .loop => 0x00#8
  | .once => 0x01#8

def KeyMode.code : KeyMode → Byte
  | .press => 0x00#8
  | .repeating => 0x01#8

def LineMode.code : LineMode → Byte
  | .level => 0x00#8
  | .pulse => 0x01#8

def ClearMode.code : ClearMode → Byte
  | .readClears => 0x00#8
  | .writeClears => 0x01#8

def Sensitivity.code : Sensitivity → Byte
  | .edge => 0x00#8
  | .level => 0x01#8

def Party.code : Party → Byte
  | .link => 0x01#8
  | .panel => 0x02#8

/-- The result codes (R194). -/
def ResultCode.code : ResultCode → Byte
  | .ok => 0x01#8
  | .pending => 0x02#8
  | .notReady => 0x03#8
  | .badOpcode => 0x04#8
  | .badArgument => 0x05#8
  | .badGeometry => 0x06#8
  | .freeHandle => 0x07#8
  | .noHandles => 0x08#8
  | .stageHeld => 0x09#8
  | .stageSealed => 0x0A#8
  | .stageEmpty => 0x0B#8
  | .screenOff => 0x0C#8
  | .screenRunning => 0x0D#8
  | .retiring => 0x0E#8
  | .carouselBusy => 0x0F#8
  | .carouselEmpty => 0x10#8
  | .carouselEnded => 0x11#8
  | .chainLoop => 0x12#8
  | .sceneEmpty => 0x13#8
  | .sceneFull => 0x14#8
  | .probeBusy => 0x15#8
  | .noProbe => 0x16#8
  | .refused => 0x17#8

/-- A key's last outcome (table of R189). -/
def KeyOutcome.code : KeyOutcome → Byte
  | .none => 0x00#8
  | .done => 0x80#8
  | .partly => 0x81#8
  | .refusal code => code.code

/-! ### The window record (11.3, R190) -/

/-- Bytes 2 to 9: the corners, each clamped before any other test; none for an inverted rectangle (R6). -/
def recordRect (r : List Byte) : Option Rect :=
  let rect : Rect := ⟨clamp 4095 (num2 r 2), clamp 4095 (num2 r 4), clamp 4095 (num2 r 6), clamp 4095 (num2 r 8)⟩
  if rect.x0 ≤ rect.x1 ∧ rect.y0 ≤ rect.y1 then some rect else none

/-- Bytes 10 and 11: source kind and number; none for a code or a number that names nothing (R7). -/
def recordSource (r : List Byte) : Option Source :=
  if arg r 10 = 0x00#8 then (ident 12 (arg r 11)).map .input
  else if arg r 10 = 0x01#8 then (ident 16 (arg r 11)).map .carousel
  else if arg r 10 = 0x02#8 then some .slate
  else none

/-- Bytes 12 to 19 (R8). -/
def recordCrop (r : List Byte) : Crop :=
  ⟨clamp 4095 (num2 r 12), clamp 4095 (num2 r 14), clamp 4095 (num2 r 16), clamp 4095 (num2 r 18)⟩

/-- Bytes 28 to 31: loss policy, substitute input, hold limit; none for a code or a substitute that names nothing (R10). -/
def recordLoss (r : List Byte) : Option LossPolicy :=
  if arg r 28 = 0x00#8 then some (.hold (num2 r 30))
  else if arg r 28 = 0x01#8 then some .slate
  else if arg r 28 = 0x02#8 then (ident 12 (arg r 29)).map .substitute
  else none

/-- The field groups of AMEND WINDOW (R19). -/
inductive FieldGroup where
  | layer | rectangle | source | crop | opacity | border | slateColour | loss | fade | pin
  deriving DecidableEq, Repr

/-- The mask bit of a field group (11.4, R191). -/
def FieldGroup.bit : FieldGroup → Nat
  | .layer => 1
  | .rectangle => 2
  | .source => 3
  | .crop => 4
  | .opacity => 5
  | .border => 6
  | .slateColour => 7
  | .loss => 8
  | .fade => 9
  | .pin => 10

/-- The mask selects the group (R191). -/
def selects (mask : BitVec 16) (g : FieldGroup) : Bool := mask.getLsbD g.bit

/-- Every group, as PLACE WINDOW and STORE SCENE use a record (R14). -/
def everyGroup : BitVec 16 := 0xFFFF#16

/-- The selected groups of a record replace the same fields of a copy, in the order of tests of R14: rectangle, source kind and
number, loss policy and substitute. Groups that are not selected are neither tested nor stored (R14, R19, R191). -/
def editFields (mask : BitVec 16) (r : List Byte) (base : WindowFields) : Except ResultCode WindowFields :=
  match if selects mask .rectangle then recordRect r else some base.rect with
  | none => .error .badGeometry
  | some rect =>
    match if selects mask .source then recordSource r else some base.source with
    | none => .error .badArgument
    | some source =>
      match if selects mask .loss then recordLoss r else some base.loss with
      | none => .error .badArgument
      | some loss =>
        .ok
          { screen := base.screen
            layer := if selects mask .layer then clamp 15 (num r 1) else base.layer
            rect := rect
            source := source
            crop := if selects mask .crop then recordCrop r else base.crop
            opacity := if selects mask .opacity then clamp 64 (num r 20) else base.opacity
            borderWidth := if selects mask .border then clamp 15 (num r 21) else base.borderWidth
            borderColour := if selects mask .border then colourAt r 22 else base.borderColour
            slateColour := if selects mask .slateColour then colourAt r 25 else base.slateColour
            loss := loss
            fade := if selects mask .fade then clamp 63 (num r 32) else base.fade
            pinned := if selects mask .pin then (arg r 33).getLsbD 0 else base.pinned }

/-- A copy whose every field but the screen a whole record replaces. -/
def blankFields (k : ScreenId) : WindowFields where
  screen := k
  layer := 0
  rect := ⟨0, 0, 0, 0⟩
  source := .slate
  crop := ⟨0, 0, 0, 0⟩
  opacity := 0
  borderWidth := 0
  borderColour := ⟨0, 0, 0⟩
  slateColour := ⟨0, 0, 0⟩
  loss := .slate
  fade := 0
  pinned := false

/-- A whole record as the fields of a window of screen k, or the first failing test of R14. -/
def recordFields (k : ScreenId) (r : List Byte) : Except ResultCode WindowFields :=
  editFields everyGroup r (blankFields k)

def Source.bytes : Source → List Byte
  | .input i => [0x00#8, byte i]
  | .carousel c => [0x01#8, byte c]
  | .slate => [0x02#8, 0x00#8]

def LossPolicy.bytes : LossPolicy → List Byte
  | .hold limit => [0x00#8, 0x00#8] ++ bytes2 limit
  | .slate => [0x01#8, 0x00#8, 0x00#8, 0x00#8]
  | .substitute i => [0x02#8, byte i, 0x00#8, 0x00#8]

/-- A stored copy as the 34 bytes of a window record; an absent field reads 0 (R190). -/
def WindowFields.bytes (f : WindowFields) : List Byte :=
  [byte f.screen, byte f.layer]
    ++ bytes2 f.rect.x0 ++ bytes2 f.rect.y0 ++ bytes2 f.rect.x1 ++ bytes2 f.rect.y1
    ++ f.source.bytes
    ++ bytes2 f.crop.cx ++ bytes2 f.crop.cy ++ bytes2 f.crop.cw ++ bytes2 f.crop.ch
    ++ [byte f.opacity, byte f.borderWidth] ++ Colour.bytes f.borderColour ++ Colour.bytes f.slateColour
    ++ f.loss.bytes ++ [byte f.fade, flagByte f.pinned]

/-- A copy in a response; a copy that does not exist reads 0 in all 34 bytes (R190). -/
def copyBytes : Option WindowFields → List Byte
  | some f => f.bytes
  | none => List.replicate 34 0x00#8

end Sys2Proof.Machine
end

