-- ==== Sys2Proof/Machine/Ops.lean ====
section
/-! DEFINITION. The named operations over the records: one record replaced, all records of a table changed, the parts of a window
record, the stage test and the edit of a stage (R15, R28), handles and stacking order (R2, R5), the discard of a stage (R33), presence
and slots of an input (R105 to R110). -/

namespace Sys2Proof.Machine

/-! ### Tables -/

/-- Every record of a table, changed with its number in view. -/
def mapTable {α : Type} {n : Nat} (f : Fin n → α → α) (v : Vector α n) : Vector α n :=
  ⟨((List.finRange n).map fun i => f i v[i]).toArray, by simp⟩

def State.setWindow (s : State) (h : Handle) (w : Window) : State := { s with windows := s.windows.set h w }
def State.setStage (s : State) (k : ScreenId) (g : Stage) : State := { s with stages := s.stages.set k g }
def State.setScreen (s : State) (k : ScreenId) (c : Screen) : State := { s with screens := s.screens.set k c }
def State.setInput (s : State) (i : InputId) (p : Input) : State := { s with inputs := s.inputs.set i p }
def State.setCarousel (s : State) (c : CarouselId) (r : Carousel) : State := { s with carousels := s.carousels.set c r }
def State.setScene (s : State) (n : SceneId) (r : Scene) : State := { s with scenes := s.scenes.set n r }
def State.setKey (s : State) (k : KeyId) (r : Key) : State := { s with keys := s.keys.set k r }

/-! ### Answers of commands -/

/-- What a taken command gives: its result code, its response fields, and the records after it (R170, R186). -/
structure Answer where
  code : ResultCode
  fields : List Byte
  after : State
  deriving DecidableEq, Repr

/-- Any result but OK and PENDING: no effect on any record, no response field (R186). -/
def refuse (code : ResultCode) (s : State) : Answer := ⟨code, [], s⟩

/-- OK with response fields. -/
def reply (fields : List Byte) (s : State) : Answer := ⟨.ok, fields, s⟩

/-! ### The parts of a window record (R1) -/

def Window.liveCopy : Window → Option WindowFields
  | .free | .staged _ => none
  | .live c _ _ _ | .retiring c _ _ => some c

def Window.pendingCopy : Window → Option WindowFields
  | .staged p | .live _ (.amended p) _ _ => some p
  | .free | .live _ .none _ _ | .live _ .retire _ _ | .retiring _ _ _ => none

def Window.retireMark : Window → Bool
  | .live _ .retire _ _ => true
  | .free | .staged _ | .live _ .none _ _ | .live _ (.amended _) _ _ | .retiring _ _ _ => false

def Window.view : Window → Option View
  | .free | .staged _ => none
  | .live _ _ v _ | .retiring _ v _ => some v

def Window.mode (w : Window) : Option DisplayMode := w.view.map View.mode

/-- The screen a window belongs to, fixed when it is placed (R4). -/
def Window.screen : Window → Option ScreenId
  | .free => none
  | .staged p => some p.screen
  | .live c _ _ _ | .retiring c _ _ => some c.screen

def Window.isFree : Window → Bool
  | .free => true
  | .staged _ | .live _ _ _ _ | .retiring _ _ _ => false

/-- A shown window is LIVE or RETIRING (R3). -/
def Window.isShown : Window → Bool
  | .free | .staged _ => false
  | .live _ _ _ _ | .retiring _ _ _ => true

def Window.belongsTo (w : Window) (k : ScreenId) : Bool := w.screen = some k

/-- The window has pending work: it is STAGED, or LIVE with a pending copy or a retire mark (R27, R38). -/
def Window.hasPendingWork : Window → Bool
  | .staged _ | .live _ (.amended _) _ _ | .live _ .retire _ _ => true
  | .free | .live _ .none _ _ | .retiring _ _ _ => false

/-- The layer a list orders the window by: live for LIVE and RETIRING, pending for STAGED (R5, R22). -/
def Window.listLayer : Window → Option (Fin 16)
  | .free => none
  | .staged p => some p.layer
  | .live c _ _ _ | .retiring c _ _ => some c.layer

/-- The discard of a stage at one of its windows (R33). -/
def Window.discard : Window → Window
  | .free => .free
  | .staged _ => .free
  | .live c _ v t => .live c .none v t
  | .retiring c v f => .retiring c v f

/-! ### Handles and stacking order -/

/-- The lowest-numbered FREE handle (R2). -/
def State.lowestFree (s : State) : Option Handle := (List.finRange 64).find? fun h => s.windows[h].isFree

/-- The number of FREE handles (R156). -/
def State.freeCount (s : State) : Nat := ((List.finRange 64).filter fun h => s.windows[h].isFree).length

/-- The handles for which `layer` answers, in ascending stacking key: layer first, then handle (R5). -/
def stackOrder (layer : Handle → Option (Fin 16)) : List Handle :=
  (List.finRange 16).flatMap fun l => (List.finRange 64).filter fun h => layer h = some l

/-- A shown window of screen k exists in the table. -/
def State.hasShown (s : State) (k : ScreenId) : Bool :=
  (List.finRange 64).any fun h => s.windows[h].isShown && s.windows[h].belongsTo k

/-! ### Stages -/

/-- The test of an edit by a party against the stage of the window's screen (R15): the refusal, or none where the edit proceeds. -/
def Stage.refusal (g : Stage) (caller : Party) : Option ResultCode :=
  match g with
  | .empty => none
  | .opened owner _ => if owner = caller then none else some .stageHeld
  | .sealed _ _ => some .stageSealed

/-- An edit of screen k that succeeds: the stage is OPEN with the caller as owner and its expiry count is 0 (R15, R28). -/
def State.edited (s : State) (caller : Party) (k : ScreenId) : State := s.setStage k (.opened caller 0)

/-- The stage of screen k is discarded, by DISCARD STAGE or by expiry (R33). -/
def State.discardStage (s : State) (k : ScreenId) : State :=
  { s.setStage k .empty with
    windows := mapTable (fun _ w => if w.belongsTo k then w.discard else w) s.windows }

/-! ### Inputs and slots -/

def Presence.isPresent : Presence → Bool
  | .present _ => true
  | .absent | .acquiring _ => false

def Presence.isAbsent : Presence → Bool
  | .absent => true
  | .acquiring _ | .present _ => false

/-- Input i is PRESENT. -/
def State.inputPresent (s : State) (i : InputId) : Bool := s.inputs[i].presence.isPresent

/-- The slots' roles (R106). -/
inductive Role where
  | free | writing | newest
  deriving DecidableEq, Repr

/-- The slot that holds the frame in progress. -/
def InProgress.slot : InProgress → Option SlotId
  | .stored j _ => some j
  | .none | .unstored _ => Option.none

/-- What the feed has delivered of the frame in progress (R99). -/
def InProgress.delivered : InProgress → Option FeedFrame
  | .stored _ f | .unstored f => some f
  | .none => Option.none

/-- A slot is NEWEST when it is the newest complete slot, WRITING when it holds the frame in progress, FREE otherwise (R106). -/
def Input.role (p : Input) (j : SlotId) : Role :=
  if p.newest = some j then .newest
  else if p.inProgress.slot = some j then .writing
  else .free

/-- Screen k pins slot j of input i (R87, R106). -/
def State.pins (s : State) (k : ScreenId) (i : InputId) (j : SlotId) : Bool := s.screens[k].pins[i] = some j

/-- Some screen pins slot j of input i. -/
def State.pinned (s : State) (i : InputId) (j : SlotId) : Bool := (List.finRange 8).any fun k => s.pins k i j

/-- The set of screens that pin slot j of input i (R106), as a set byte (R189). -/
def State.pinSet (s : State) (i : InputId) (j : SlotId) : Byte :=
  (List.finRange 8).foldl (fun b k => if s.pins k i j then b ||| BitVec.twoPow 8 k else b) 0#8

/-- Input i enters or leaves PRESENT: its changed mark is set, and the INPUT cause is raised if its event enable is yes (R105). -/
def State.presenceChanged (s : State) (i : InputId) : State :=
  (s.setInput i { s.inputs[i] with changed := true }).raiseIf s.inputs[i].eventEnable .input

/-- Input i gets a new presence; an entry into PRESENT or an exit from it is a change (R105). -/
def State.setPresence (s : State) (i : InputId) (p : Presence) : State :=
  let t := s.setInput i { s.inputs[i] with presence := p }
  if s.inputs[i].presence.isPresent = p.isPresent then t else t.presenceChanged i

end Sys2Proof.Machine
end

