-- ==== Sys2Proof/Machine/Screens.lean ====
section
/-! DEFINITION. The screen commands (chapter 5): CONFIGURE, START, STOP, READ SCREEN, PROBE POINT and PROBE RESULT, and the minute at a
screen (R89, R90). -/

namespace Sys2Proof.Machine

/-- The raster of a format (R79). -/
def Format.width : Format → Nat
  | .fhd => 1920
  | .hd => 1280

def Format.height : Format → Nat
  | .fhd => 1080
  | .hd => 720

/-- CONFIGURE SCREEN (R81): screen, format, rate, keypad lock, and, unless the screen is OFF, format and rate unchanged. -/
def configureScreen (args : List Byte) (s : State) : Answer :=
  match ident 8 (arg args 0) with
  | none => refuse .badArgument s
  | some k =>
    match formatOf (arg args 1) with
    | none => refuse .badArgument s
    | some format =>
      match rateOf (arg args 2) with
      | none => refuse .badArgument s
      | some rate =>
        match yesNo (arg args 7) with
        | none => refuse .badArgument s
        | some lock =>
          let c := s.screens[k]
          if c.mode ≠ .off ∧ (format ≠ c.format ∨ rate ≠ c.rate) then refuse .screenRunning s
          else
            reply [] (s.setScreen k
              { c with
                format := format
                rate := rate
                background := colourAt args 3
                idleLimit := clamp 240 (num args 6)
                keypadLock := lock })

/-- START SCREEN at an OFF screen (R83): RUNNING, frame number and idle count 0; the plan stays none until the first frame start. -/
def Screen.start (c : Screen) : Screen := { c with mode := .running, frame := 0, idleCount := 0 }

/-- START SCREEN (R83). -/
def startScreen (args : List Byte) (s : State) : Answer :=
  match ident 8 (arg args 0) with
  | none => refuse .badArgument s
  | some k => if s.screens[k].mode = .off then reply [] (s.setScreen k s.screens[k].start) else reply [] s

/-- A transition of a window ends as its screen stops: a FADE-OUT frees the window, any other ends at full weight (R77). -/
def Window.endTransition : Window → Window
  | .free => .free
  | .staged p => .staged p
  | .live c w v _ => .live c w v none
  | .retiring _ _ _ => .free

/-- The probe slot as its screen stops: a WAITING probe is answered with outcome SCREEN_OFF (R95). -/
def ProbeSlot.stop (p : ProbeSlot) (frame : BitVec 16) : ProbeSlot :=
  match p with
  | .waiting _ _ => .answered ⟨.screenOff, none, none, none, none, frame⟩
  | .empty => .empty
  | .answered a => .answered a

def ProbeSlot.isWaiting : ProbeSlot → Bool
  | .waiting _ _ => true
  | .empty | .answered _ => false

/-- The screen record as the screen stops (R84). -/
def Screen.stop (c : Screen) : Screen :=
  { c with
    mode := .off
    plan := none
    pins := Vector.replicate 12 none
    probe := c.probe.stop c.frame
    idleCount := 0 }

/-- STOP SCREEN at a RUNNING or STANDBY screen (R77, R84, R95). -/
def State.stopScreen (s : State) (k : ScreenId) : State :=
  let t := { s with windows := mapTable (fun _ w => if w.belongsTo k then w.endTransition else w) s.windows }
  (t.setScreen k s.screens[k].stop).raiseIf s.screens[k].probe.isWaiting .probe

/-- STOP SCREEN (R84). -/
def stopScreen (args : List Byte) (s : State) : Answer :=
  match ident 8 (arg args 0) with
  | none => refuse .badArgument s
  | some k => if s.screens[k].mode = .off then reply [] s else reply [] (s.stopScreen k)

/-- The response of READ SCREEN (R85, 11.5). -/
def Screen.response (c : Screen) : List Byte :=
  [c.mode.code, c.format.code, c.rate.code] ++ Colour.bytes c.background
    ++ [flagByte c.keypadLock, byte c.idleLimit, byte c.idleCount] ++ bytes2 c.frame.toNat
    ++ (c.pins.toList.map orNone) ++ [c.probe.code]

/-- READ SCREEN (R85). -/
def readScreen (args : List Byte) (s : State) : Answer :=
  match ident 8 (arg args 0) with
  | none => refuse .badArgument s
  | some k => reply s.screens[k].response s

/-- PROBE POINT (R92): screen, point, screen state, probe slot. On success the result is PENDING, with no response field (R192). -/
def probePoint (args : List Byte) (s : State) : Answer :=
  match ident 8 (arg args 0) with
  | none => refuse .badArgument s
  | some k =>
    let c := s.screens[k]
    if num2 args 1 < c.format.width ∧ num2 args 3 < c.format.height then
      if c.mode = .off then refuse .screenOff s
      else if c.probe.isWaiting then refuse .probeBusy s
      else ⟨.pending, [], s.setScreen k { c with probe := .waiting (num2 args 1) (num2 args 3) }⟩
    else refuse .badArgument s

/-- The answer fields of a probe (11.5, PROBE RESULT). -/
def ProbeAnswer.bytes (a : ProbeAnswer) : List Byte :=
  [a.outcome.code, orNone a.handle, (a.kind.map PointKind.code).getD 0x00#8, (a.mode.map DisplayMode.code).getD 0x00#8]
    ++ (match a.position with
        | none => [0x00#8, 0x00#8, 0x00#8, 0x00#8, 0x00#8]
        | some p => [0x01#8] ++ bytes2 p.1 ++ bytes2 p.2)
    ++ bytes2 a.frame.toNat

/-- PROBE RESULT (R94). -/
def probeResult (args : List Byte) (s : State) : Answer :=
  match ident 8 (arg args 0) with
  | none => refuse .badArgument s
  | some k =>
    match s.screens[k].probe with
    | .empty => refuse .noProbe s
    | .waiting _ _ => ⟨.pending, [], s⟩
    | .answered a => reply a.bytes (s.setScreen k { s.screens[k] with probe := .empty })

/-- The idle count of a screen at a minute (R89): it advances, up to 240, at a RUNNING screen with no shown window. -/
def State.idleAtMinute (s : State) (k : ScreenId) : Nat :=
  let c := s.screens[k]
  if c.mode = .running ∧ s.hasShown k = false then min (c.idleCount + 1) 240 else c.idleCount

/-- The screen enters STANDBY at this minute (R90). -/
def State.entersStandby (s : State) (k : ScreenId) : Bool :=
  let c := s.screens[k]
  decide (c.mode = .running ∧ c.idleLimit ≠ 0 ∧ c.idleLimit.val ≤ s.idleAtMinute k)

/-- The minute at screen k: its idle count advances (R89), and the screen enters STANDBY when the count reaches a non-zero limit,
raising the STANDBY cause (R90). -/
def State.minuteAt (s : State) (k : ScreenId) : State :=
  let c := { s.screens[k] with idleCount := s.idleAtMinute k }
  if s.entersStandby k then (s.setScreen k { c with mode := .standby }).raise .standby
  else s.setScreen k c

end Sys2Proof.Machine
end

