-- ==== Sys2Proof/Machine/Carousels.lean ====
section
/-! DEFINITION. The carousel unit (chapter 8): SET, START, STOP, STEP and READ CAROUSEL, the advance and its cascade (R143 to R145), and
the dwell tick at the carousels (R141, R142). -/

namespace Sys2Proof.Machine

/-- The dwell of entry n. -/
def Carousel.dwell (c : Carousel) (n : Nat) : Nat := (c.entries[n]?.map Entry.dwell).getD 0

/-- Entry n becomes current: the remaining field becomes its dwell (R135, R143). -/
def Carousel.goTo (c : Carousel) (n : Nat) : Carousel := { c with index := n, remaining := c.dwell n }

/-- The input of the current entry; none for a carousel with no entries (R116, R134). -/
def Carousel.designates (c : Carousel) : Option InputId := c.entries[c.index]?.map Entry.input

/-! ### The advance -/

/-- What an advance came to: no entry PRESENT (R144), another entry, a wrap, the end of a ONCE carousel. -/
inductive Advance where
  | stays | moved | wrapped | ended
  deriving DecidableEq, Repr

/-- A ONCE carousel passes its last entry (R143). -/
def Carousel.finish (c : Carousel) : Carousel := { c with state := .ended, remaining := c.dwell c.index }

/-- The candidate indexes after the current one, as many as the list has entries, counted on past the end (R144). -/
def Carousel.candidates (c : Carousel) : List Nat := (List.range c.entries.length).map fun n => c.index + 1 + n

/-- The entry of a candidate, counted round the list, has a PRESENT input. -/
def Carousel.entryPresent (c : Carousel) (present : InputId → Bool) (candidate : Nat) : Bool :=
  match c.entries[candidate % c.entries.length]? with
  | none => false
  | some e => present e.input

/-- The advance of one carousel by itself (R143, and R144 where skip-absent is yes). -/
def Carousel.advance (c : Carousel) (present : InputId → Bool) : Carousel × Advance :=
  if c.skipAbsent then
    match c.mode with
    | .loop =>
      match c.candidates.find? (c.entryPresent present) with
      | none => ({ c with remaining := c.dwell c.index }, .stays)
      | some n => (c.goTo (n % c.entries.length), if n < c.entries.length then .moved else .wrapped)
    | .once =>
      match (c.candidates.filter (· < c.entries.length)).find? (c.entryPresent present) with
      | none => (c.finish, .ended)
      | some n => (c.goTo n, .moved)
  else if c.index + 1 < c.entries.length then (c.goTo (c.index + 1), .moved)
  else
    match c.mode with
    | .loop => (c.goTo 0, .wrapped)
    | .once => (c.finish, .ended)

/-- The carousel is RUNNING and follows carousel k (R145). -/
def Carousel.followsRunning (c : Carousel) (k : CarouselId) : Bool :=
  decide (c.state = .running ∧ c.clock = .follow k)

/-- Carousel k advances; if it wraps, every RUNNING follower of it advances in the same event, and so on down the chain (R145). The
answer says whether a carousel ended. `fuel` bounds the length of the chain (log 17). -/
def advanceChain (present : InputId → Bool) : Nat → CarouselId → Vector Carousel 16 → Vector Carousel 16 × Bool
  | 0, _, cs => (cs, false)
  | fuel + 1, k, cs =>
    let r := cs[k].advance present
    let cs' := cs.set k r.1
    match r.2 with
    | .stays | .moved => (cs', false)
    | .ended => (cs', true)
    | .wrapped =>
      (List.finRange 16).foldl
        (fun acc f =>
          if acc.1[f].followsRunning k then
            let q := advanceChain present fuel f acc.1
            (q.1, acc.2 || q.2)
          else acc)
        (cs', false)

/-- A chain of followers has at most sixteen carousels (R134: at most 15 steps to a TIMER carousel). -/
def chainFuel : Nat := 16

/-- Carousel k advances once, by its timer, by STEP CAROUSEL or by a STEP key (R142, R146): the cascade of R145, and the CAROUSEL cause
if a carousel ended (R143). -/
def State.advanceCarousel (s : State) (k : CarouselId) : State :=
  let r := advanceChain s.inputPresent chainFuel k s.carousels
  ({ s with carousels := r.1 } : State).raiseIf r.2 .carousel

/-! ### Commands -/

/-- The clock a SET CAROUSEL carries: none for a code that names no clock (R136 test 2). -/
inductive ClockCode where
  | timer | follow
  deriving DecidableEq, Repr

def clockOf (b : Byte) : Option ClockCode :=
  if b = 0x00#8 then some .timer else if b = 0x01#8 then some .follow else none

/-- The carousel entries of a SET CAROUSEL: 3 bytes each, dwell 0 clamped to 1 (R135); none if an entry names no input (R136 test 5). -/
def entriesOf (args : List Byte) : Nat → Option (List Entry)
  | 0 => some []
  | n + 1 =>
    match ident 12 (arg args 0), entriesOf (args.drop 3) n with
    | some i, some rest => some (⟨i, max 1 (num2 args 1)⟩ :: rest)
    | _, _ => none

/-- The chain of clocks that starts at k reaches n (R137), followed for at most `fuel` carousels. -/
def chainReaches (cs : Vector Carousel 16) (n : CarouselId) : Nat → CarouselId → Bool
  | 0, _ => false
  | fuel + 1, k =>
    k = n ||
      match cs[k].clock with
      | .timer => false
      | .follow m => chainReaches cs n fuel m

/-- SET CAROUSEL may not be taken while the carousel is RUNNING or a request is pending (R136 test 6). -/
def Carousel.busy (c : Carousel) : Bool := decide (c.state = .running ∨ c.request ≠ .none)

/-- The record a SET CAROUSEL that passes every test leaves (R138). -/
def Carousel.define (mode : CarouselMode) (skip : Bool) (clock : Clock) (entries : List Entry) : Carousel where
  state := .stopped
  request := .none
  mode := mode
  skipAbsent := skip
  clock := clock
  entries := entries
  index := 0
  remaining := (entries[0]?.map Entry.dwell).getD 0

/-- The clock asked for: the followed carousel counts only with FOLLOW, and must then name a carousel (R136 test 3). -/
def clockWith (code : ClockCode) (followed : Byte) : Option Clock :=
  match code with
  | .timer => some .timer
  | .follow => (ident 16 followed).map .follow

/-- The new clock of carousel n closes a cycle (R136 test 7, R137). -/
def closesCycle (cs : Vector Carousel 16) (n : CarouselId) : Clock → Bool
  | .timer => false
  | .follow k => chainReaches cs n chainFuel k

/-- SET CAROUSEL (R136, R138). -/
def setCarousel (args : List Byte) (s : State) : Answer :=
  match ident 16 (arg args 0) with
  | none => refuse .badArgument s
  | some n =>
    match carouselModeOf (arg args 1), yesNo (arg args 2), clockOf (arg args 3) with
    | some mode, some skip, some code =>
      match clockWith code (arg args 4) with
      | none => refuse .badArgument s
      | some clock =>
        if Config.maxCarouselEntries < num args 5 then refuse .badArgument s
        else
          match entriesOf (args.drop 6) (num args 5) with
          | none => refuse .badArgument s
          | some entries =>
            if s.carousels[n].busy then refuse .carouselBusy s
            else if closesCycle s.carousels n clock then refuse .chainLoop s
            else reply [] (s.setCarousel n (Carousel.define mode skip clock entries))
    | _, _, _ => refuse .badArgument s

/-- The request after a START (R139). -/
def Carousel.requestStart (c : Carousel) : Carousel :=
  match c.state with
  | .stopped | .ended => { c with request := .start }
  | .running => { c with request := .none }

/-- The request after a STOP (R140). -/
def Carousel.requestStop (c : Carousel) : Carousel :=
  match c.state with
  | .running | .ended => { c with request := .stop }
  | .stopped => { c with request := .none }

/-- START CAROUSEL on carousel c, by either party (R139, R163). -/
def State.startCarousel (s : State) (c : CarouselId) : Answer :=
  if s.carousels[c].entries = [] then refuse .carouselEmpty s
  else reply [] (s.setCarousel c s.carousels[c].requestStart)

/-- STOP CAROUSEL on carousel c, by either party (R140, R163). -/
def State.stopCarousel (s : State) (c : CarouselId) : Answer :=
  reply [] (s.setCarousel c s.carousels[c].requestStop)

/-- STEP CAROUSEL on carousel c, by either party (R146, R163). -/
def State.stepCarousel (s : State) (c : CarouselId) : Answer :=
  if s.carousels[c].entries = [] then refuse .carouselEmpty s
  else if s.carousels[c].state = .ended then refuse .carouselEnded s
  else reply [] (s.advanceCarousel c)

/-- START CAROUSEL (R139). -/
def startCarousel (args : List Byte) (s : State) : Answer :=
  match ident 16 (arg args 0) with
  | none => refuse .badArgument s
  | some c => s.startCarousel c

/-- STOP CAROUSEL (R140). -/
def stopCarousel (args : List Byte) (s : State) : Answer :=
  match ident 16 (arg args 0) with
  | none => refuse .badArgument s
  | some c => s.stopCarousel c

/-- STEP CAROUSEL (R146). -/
def stepCarousel (args : List Byte) (s : State) : Answer :=
  match ident 16 (arg args 0) with
  | none => refuse .badArgument s
  | some c => s.stepCarousel c

/-- Clock code and followed carousel (0 for TIMER) in a response (11.5). -/
def Clock.bytes : Clock → List Byte
  | .timer => [0x00#8, 0x00#8]
  | .follow k => [0x01#8, byte k]

/-- The response of READ CAROUSEL (R148, 11.5). -/
def Carousel.response (c : Carousel) : List Byte :=
  [c.state.code, c.request.code, c.mode.code, flagByte c.skipAbsent] ++ c.clock.bytes ++ [byte c.entries.length]
    ++ (c.entries.flatMap fun e => byte e.input :: bytes2 e.dwell) ++ [byte c.index] ++ bytes2 c.remaining

/-- READ CAROUSEL (R148). -/
def readCarousel (args : List Byte) (s : State) : Answer :=
  match ident 16 (arg args 0) with
  | none => refuse .badArgument s
  | some c => reply s.carousels[c].response s

/-- A carousel as RESET LAYOUT leaves it (R149). -/
def Carousel.rewind (c : Carousel) : Carousel := { c.goTo 0 with state := .stopped, request := .none }

/-! ### The dwell tick -/

/-- The pending request is applied and set to none (R141). -/
def Carousel.applyRequest (c : Carousel) : Carousel :=
  match c.state, c.request with
  | .stopped, .start => { c with state := .running, request := .none }
  | .ended, .start => { c.goTo 0 with state := .running, request := .none }
  | .running, .stop | .ended, .stop => { c with state := .stopped, request := .none }
  | _, _ => { c with request := .none }

/-- The carousel is counted down at a dwell tick: RUNNING with clock TIMER (R142). -/
def Carousel.counts (c : Carousel) : Bool := decide (c.state = .running ∧ c.clock = .timer)

/-- The count-down of carousel c brings its remaining field to 0 (R142). -/
def State.timesOut (s : State) (c : CarouselId) : Bool :=
  s.carousels[c].counts && decide (s.carousels[c].remaining ≤ 1)

/-- The count-down of carousel c, and its advance when the remaining field reaches 0 (R142). -/
def State.countDown (s : State) (c : CarouselId) : State :=
  let t := s.setCarousel c { s.carousels[c] with remaining := s.carousels[c].remaining - 1 }
  if s.timesOut c then t.advanceCarousel c else t

/-- The dwell tick's first part at the carousels: every pending request is applied (R141). -/
def State.applyRequests (s : State) : State := { s with carousels := mapTable (fun _ c => c.applyRequest) s.carousels }

/-- The dwell tick at the carousels (R141, R142): requests first; then each TIMER carousel that was RUNNING before the tick and still
is counts down. One made RUNNING or STOPPED at this tick does not. -/
def State.carouselTick (s : State) : State :=
  let t := s.applyRequests
  (List.finRange 16).foldl (fun u c => if s.carousels[c].counts && t.carousels[c].counts then u.countDown c else u) t

end Sys2Proof.Machine
end

