-- ==== Sys2Proof/Machine/Transitions.lean ====
section
/-! DEFINITION. Transitions (chapter 4): weights (R65, R68), steps and ends (R66), starts (R67 to R69) and meetings (R70 to R74). -/

namespace Sys2Proof.Machine

/-- The weight t(k) of a step k of a transition of length N (R65). -/
def weight (k n : Nat) : Nat := 64 * k / n

/-- The weight u(k) of a FADE-OUT (R68). -/
def FadeOut.weight (f : FadeOut) : Nat := f.t0 * (f.n - f.k) / f.n

/-- The transition in the frame that begins, when nothing else meets it: the next step, or none when the last step was shown (R66). -/
def LiveTransition.next : LiveTransition → Option LiveTransition
  | .fadeIn k n => if k < n then some (.fadeIn (k + 1) n) else none
  | .crossfade k n source => if k < n then some (.crossfade (k + 1) n source) else none

/-- The FADE-OUT in the frame that begins; none when its last step was shown (R66, R68). -/
def FadeOut.next (f : FadeOut) : Option FadeOut :=
  if f.k < f.n then some { f with k := f.k + 1 } else none

/-- The FADE-IN of a window committed from STAGED (R67); none for fade length 0. -/
def startFadeIn (n : Fin 64) : Option LiveTransition := if n.val = 0 then none else some (.fadeIn 1 n)

/-- The starting weight of a FADE-OUT: the weight of a FADE-IN that the retirement meets at k < N, otherwise 64 (R68, R70 to R72). -/
def startingWeight : Option LiveTransition → Nat
  | some (.fadeIn k n) => if k < n then weight k n else 64
  | some (.crossfade _ _ _) | none => 64

/-- The transition of a LIVE window whose effective input changed (R69, R70, R73, R74): `continuing` is the transition that continues
into the frame that begins, `old` the effective input of the frame that ended. -/
def sourceChange (n : Fin 64) (old : Option InputId) (continuing : Option LiveTransition) : Option LiveTransition :=
  match continuing with
  | some (.fadeIn k m) => some (.fadeIn k m)
  | some (.crossfade _ _ _) | none => if n.val = 0 then none else some (.crossfade 1 n old)

/-- The transition of a window showed its last step in the frame being shown (R66). -/
def Window.showedLastStep : Window → Bool
  | .free | .staged _ | .live _ _ _ none => false
  | .live _ _ _ (some t) => t.next.isNone
  | .retiring _ _ f => f.next.isNone

/-- The transition of a window ends: a window ending a FADE-OUT becomes FREE (R66, R67, R68, R69). -/
def Window.finishTransition : Window → Window
  | .free => .free
  | .staged p => .staged p
  | .live c w v _ => .live c w v none
  | .retiring _ _ _ => .free

/-- The effective opacity of a shown window in a frame (R59, R67, R68). -/
def Window.effectiveOpacity : Window → Nat
  | .free | .staged _ => 0
  | .live c _ _ (some (.fadeIn k n)) => c.opacity * weight k n / 64
  | .live c _ _ (some (.crossfade _ _ _)) | .live c _ _ none => c.opacity
  | .retiring c _ f => c.opacity * f.weight / 64

end Sys2Proof.Machine
end

