-- ==== Sys2Proof/Machine/Sources.lean ====
section
/-! DEFINITION. Effective inputs and display modes (chapter 7), the hold count (R123, R124), and the whole frame start at one window:
commit (R39 to R43), transition (R66 to R74) and refresh (R115 to R130). -/

namespace Sys2Proof.Machine

/-- The effective input that a source designates at a frame start (R116, R117). -/
def State.designated (s : State) : Source → Option InputId
  | .input i => some i
  | .carousel c => s.carousels[c].designates
  | .slate => none

/-- What the frame that ended tells a HOLD decision (R122): the mode shown then, if the effective input is the same; otherwise none. -/
def View.heldMode (old : Option View) (effective : Option InputId) : Option DisplayMode :=
  match old with
  | none => none
  | some v => if v.effective = effective then some v.mode else none

/-- The display mode of a HOLD window whose effective input i is not PRESENT (R122). -/
def State.holdMode (s : State) (i : InputId) (limit hold : Nat) (before : Option DisplayMode) : DisplayMode :=
  match before with
  | some .holding => if limit = 0 ∨ hold < limit then .holding else .slated
  | some .slated => .slated
  | none | some .feed | some .substituted | some .colour =>
    if s.inputs[i].newest.isSome then .holding else .slated

/-- The display mode of a window with these live fields and this effective input (R121, R122, R125, R126). -/
def State.displayMode (s : State) (f : WindowFields) (effective : Option InputId) (old : Option View) : DisplayMode :=
  match f.source, effective with
  | .slate, _ => .colour
  | .input _, none | .carousel _, none => .slated
  | .input _, some i | .carousel _, some i =>
    if s.inputPresent i then .feed
    else
      match f.loss with
      | .hold limit => s.holdMode i limit ((old.map View.hold).getD 0) (View.heldMode old effective)
      | .slate => .slated
      | .substitute j => if s.inputPresent j then .substituted else .slated

/-- The hold count after a refresh (R123): 0 when the effective input changed, when the window was first shown, and when the mode left
HOLDING; otherwise as it stood. -/
def holdAfter (old : Option View) (effective : Option InputId) (mode : DisplayMode) : Nat :=
  match old with
  | none => 0
  | some v => if v.effective ≠ effective ∨ (v.mode = .holding ∧ mode ≠ .holding) then 0 else v.hold

/-- The refresh of a shown window (R115): its effective input, its display mode and its hold count in the frame that begins. -/
def State.refresh (s : State) (f : WindowFields) (effective : Option InputId) (old : Option View) : View :=
  let mode := s.displayMode f effective old
  ⟨mode, effective, holdAfter old effective mode⟩

/-- A LIVE window that stays LIVE at a frame start, with the live copy `f` that the commit leaves (R41, R66, R69, R73, R74, R116, R119).
At the first frame start after START SCREEN no change of effective input is a change (R119; log 15). -/
def State.liveFrame (s : State) (firstFrame : Bool) (f : WindowFields) (w : Work) (v : View) (t : Option LiveTransition) : Window :=
  let effective := s.designated f.source
  let continuing := t.bind LiveTransition.next
  .live f w (s.refresh f effective (some v))
    (if firstFrame = false ∧ v.effective ≠ effective then sourceChange f.fade v.effective continuing else continuing)

/-- The retirement of a LIVE window is committed (R42, R70 to R72): FREE for fade length 0, otherwise RETIRING with a FADE-OUT at step
1, its effective input kept (R118). -/
def State.retireFrame (s : State) (c : WindowFields) (v : View) (t : Option LiveTransition) : Window :=
  if c.fade.val = 0 then .free
  else .retiring c (s.refresh c v.effective (some v)) ⟨1, c.fade, startingWeight t⟩

/-- The frame start of its screen at one window: `committing` when the stage of the screen was SEALED (R39 to R43). -/
def State.windowFrame (s : State) (firstFrame committing : Bool) (w : Window) : Window :=
  match w with
  | .free => .free
  | .staged p =>
    if committing then .live p .none (s.refresh p (s.designated p.source) none) (startFadeIn p.fade) else .staged p
  | .live c .none v t => s.liveFrame firstFrame c .none v t
  | .live c (.amended p) v t =>
    if committing then s.liveFrame firstFrame p .none v t else s.liveFrame firstFrame c (.amended p) v t
  | .live c .retire v t => if committing then s.retireFrame c v t else s.liveFrame firstFrame c .retire v t
  | .retiring c v f =>
    match f.next with
    | none => .free
    | some g => .retiring c (s.refresh c v.effective (some v)) g

/-- The window entered SLATED (R129). -/
def entersSlated (before after : Window) : Bool :=
  decide (after.mode = some .slated ∧ before.mode ≠ some .slated)

/-! ### The hold count -/

/-- The dwell tick at a window (R123): the hold count of a HOLDING window advances, up to 65535. -/
def Window.holdTick (w : Window) : Window :=
  let tick (v : View) : View := if v.mode = .holding then { v with hold := min (v.hold + 1) 65535 } else v
  match w with
  | .free => .free
  | .staged p => .staged p
  | .live c k v t => .live c k (tick v) t
  | .retiring c v f => .retiring c (tick v) f

/-- The hold counts of the windows of screen k advance: the screen is RUNNING or STANDBY, and a frame of it has begun since START
SCREEN (R123, R131; log 12). -/
def State.countsHolds (s : State) (k : ScreenId) : Bool :=
  decide (s.screens[k].mode ≠ .off) && s.screens[k].plan.isSome

/-- The dwell tick at the windows (R123). -/
def State.holdTicks (s : State) : State :=
  { s with
    windows := mapTable
      (fun _ w =>
        match w.screen with
        | none => w
        | some k => if s.countsHolds k then w.holdTick else w)
      s.windows }

/-- What a window shows, its live fields and view. -/
def Window.shown : Window → Option (WindowFields × View)
  | .free | .staged _ => none
  | .live c _ v _ | .retiring c v _ => some (c, v)

/-- The hold that the window had before a frame start ends at it, `after` being what the frame start makes of the window: HOLDING
before, SLATED by policy HOLD after, with the same effective input (R122, R124). A window that becomes FREE, that its source or an amend
gives another effective input or another policy, or whose input is PRESENT again, ends no hold so. -/
def holdEnds (before after : Window) : Bool :=
  match before.shown, after.shown with
  | some (_, v), some (f, u) =>
    match f.loss with
    | .hold _ => decide (v.mode = .holding ∧ u.mode = .slated ∧ v.effective = u.effective ∧ u.effective ≠ none)
    | .slate | .substitute _ => false
  | none, _ | some _, none => false

/-- The window SLATED, its hold count 0 (R123, R124). -/
def Window.toSlated : Window → Window
  | .free => .free
  | .staged p => .staged p
  | .live c w v t => .live c w { v with mode := .slated, hold := 0 } t
  | .retiring c v f => .retiring c { v with mode := .slated, hold := 0 } f

end Sys2Proof.Machine
end

