-- ==== Sys2Proof/Machine/Compose.lean ====
section
/-! DEFINITION. The composition arithmetic (chapter 3): the frame plan (R45, R47, R51 to R54, R59), the source position (R55, R56), the
two-pass interpolation (R57), the cross-fade mix (R58, R69), the blend (R60), and the probe's answer (R62, R93). -/

namespace Sys2Proof.Machine

/-! ### The plan -/

/-- The crop of one axis resolved against the source size: a size of 0 is the whole source from origin 0 (R53). -/
def resolveCrop (origin size source : Nat) : Nat × Nat := if size = 0 then (0, source) else (origin, size)

/-- The scale step of one axis, clamped to 256-32768 (R54). -/
def scaleStep (crop side : Nat) : Nat := max 256 (min 32768 (crop * 4096 / side))

def Rect.width (r : Rect) : Nat := r.x1 - r.x0 + 1
def Rect.height (r : Rect) : Nat := r.y1 - r.y0 + 1

/-- A pinned slot as the picture of a window (R52 to R54). -/
def slotPicture (f : WindowFields) (i : InputId) (j : SlotId) (tag : Size) : SlotPicture :=
  let x := resolveCrop f.crop.cx f.crop.cw tag.width
  let y := resolveCrop f.crop.cy f.crop.ch tag.height
  { input := i
    slot := j
    sw := tag.width
    sh := tag.height
    cx := x.1
    cy := y.1
    cw := x.2
    ch := y.2
    h := scaleStep x.2 f.rect.width
    v := scaleStep y.2 f.rect.height }

/-- The picture that the newest complete slot of an input gives a window; its slate colour when there is no such input or slot
(R51, R58). -/
def State.pictureOf (s : State) (f : WindowFields) (i : Option InputId) : Picture :=
  match i with
  | none => .plain f.slateColour
  | some i =>
    match s.inputs[i].newest with
    | none => .plain f.slateColour
    | some j => .slot (slotPicture f i j s.inputs[i].slots[j].tag)

/-- The input whose picture a display mode shows (R51, R87); none for SLATED and COLOUR. -/
def pictureInput (f : WindowFields) (v : View) : Option InputId :=
  match v.mode with
  | .feed | .holding => v.effective
  | .substituted =>
    match f.loss with
    | .substitute j => some j
    | .hold _ | .slate => none
  | .slated | .colour => none

/-- The from-side of a window's cross-fade in the frame that begins (R58, R69). -/
def State.fromSideOf (s : State) (w : Window) : Option FromSide :=
  match w with
  | .live c _ _ (some (.crossfade k n source)) => some ⟨weight k n, s.pictureOf c source⟩
  | .live _ _ _ (some (.fadeIn _ _)) | .live _ _ _ none | .free | .staged _ | .retiring _ _ _ => none

/-- The clipped rectangle: none when the rectangle lies beyond the raster (R49). -/
def clipTo (r : Rect) (width height : Nat) : Option Clip :=
  if r.x0.val < width ∧ r.y0.val < height then some ⟨r.x0, r.y0, min r.x1 (width - 1), min r.y1 (height - 1)⟩ else none

/-- One entry of the window list (R45). -/
def State.planWindow (s : State) (width height : Nat) (h : Handle) : Option PlanWindow :=
  match s.windows[h].shown with
  | none => none
  | some (f, v) =>
    some
      { handle := h
        layer := f.layer
        rect := f.rect
        clip := clipTo f.rect width height
        borderWidth := f.borderWidth
        borderColour := f.borderColour
        opacity := s.windows[h].effectiveOpacity
        mode := v.mode
        picture := s.pictureOf f (pictureInput f v)
        fromSide := s.fromSideOf s.windows[h] }

/-- The shown windows of screen k in ascending stacking key (R47). -/
def State.shownList (s : State) (k : ScreenId) : List Handle :=
  stackOrder fun h => if s.windows[h].isShown && s.windows[h].belongsTo k then s.windows[h].listLayer else none

/-- The frame plan of screen k, from the table as the frame start leaves it (R45). -/
def State.makePlan (s : State) (k : ScreenId) : Plan :=
  let c := s.screens[k]
  { width := c.format.width
    height := c.format.height
    background := c.background
    windows := (s.shownList k).filterMap fun h => s.planWindow c.format.width c.format.height h }

/-! ### Pins (R87) -/

/-- The inputs a shown window needs in the frame that begins (R87). -/
def Window.needs (w : Window) (i : InputId) : Bool :=
  match w with
  | .free | .staged _ => false
  | .live f _ v (some (.crossfade _ _ source)) => decide (pictureInput f v = some i ∨ source = some i)
  | .live f _ v (some (.fadeIn _ _)) | .live f _ v none | .retiring f v _ => decide (pictureInput f v = some i)

/-- Some shown window of screen k needs input i. -/
def State.screenNeeds (s : State) (k : ScreenId) (i : InputId) : Bool :=
  (List.finRange 64).any fun h => s.windows[h].belongsTo k && s.windows[h].needs i

/-- The pins that screen k takes at a frame start: the newest complete slot of each input it needs (R87). -/
def State.takePins (s : State) (k : ScreenId) : Vector (Option SlotId) 12 :=
  mapTable (fun i _ => if s.screenNeeds k i then s.inputs[i].newest else none) (Vector.replicate 12 none)

/-! ### The picture of a pixel -/

/-- The window covers raster point (x, y) (R49). -/
def PlanWindow.covers (w : PlanWindow) (x y : Nat) : Bool :=
  match w.clip with
  | none => false
  | some c => decide (c.x0 ≤ x ∧ x ≤ c.x1 ∧ c.y0 ≤ y ∧ y ≤ c.y1)

/-- A covered point is a border point: one of its distances on the stored rectangle is less than the border width (R50). -/
def PlanWindow.isBorder (w : PlanWindow) (x y : Nat) : Bool :=
  decide (x - w.rect.x0 < w.borderWidth ∨ w.rect.x1 - x < w.borderWidth
    ∨ y - w.rect.y0 < w.borderWidth ∨ w.rect.y1 - y < w.borderWidth)

/-- The source position of one axis in Q12, at an offset from the window's edge (R55). -/
def sourcePosition (origin step offset : Nat) : Nat := origin * 4096 + offset * step

/-- The last column or row the sampler may read (R56). -/
def edgeLimit (origin size source : Nat) : Nat := min (origin + size - 1) (source - 1)

/-- One interpolation pass between two values at a Q12 fraction (R57). -/
def interpolate (a b fraction : Nat) : Nat := (a * (4096 - fraction) + b * fraction + 2048) / 4096

/-- The contents of a slot (R51, R106). -/
def State.slotFrame (s : State) (i : InputId) (j : SlotId) : Pixels := s.inputs[i].slots[j].contents

/-- The sample position (ca, ra) of an offset (dx, dy) in the window (R56, R62). -/
def SlotPicture.samplePosition (p : SlotPicture) (dx dy : Nat) : Nat × Nat :=
  (min (sourcePosition p.cx p.h dx / 4096) (edgeLimit p.cx p.cw p.sw),
   min (sourcePosition p.cy p.v dy / 4096) (edgeLimit p.cy p.ch p.sh))

/-- The sampled value of one component: the horizontal pass along the two rows, then the vertical pass (R55 to R57). -/
def SlotPicture.sample (p : SlotPicture) (frame : Pixels) (comp : Component) (dx dy : Nat) : Nat :=
  let u := sourcePosition p.cx p.h dx
  let w := sourcePosition p.cy p.v dy
  let lx := edgeLimit p.cx p.cw p.sw
  let ly := edgeLimit p.cy p.ch p.sh
  let ca := min (u / 4096) lx
  let cb := min (u / 4096 + 1) lx
  let ra := min (w / 4096) ly
  let rb := min (w / 4096 + 1) ly
  let row := fun r =>
    interpolate ((pixelAt frame ca r).component comp) ((pixelAt frame cb r).component comp) (u % 4096)
  interpolate (row ra) (row rb) (w % 4096)

/-- The value of a picture at an offset in the window (R52, R57). -/
def State.pictureValue (s : State) (p : Picture) (comp : Component) (dx dy : Nat) : Nat :=
  match p with
  | .plain c => c.component comp
  | .slot q => q.sample (s.slotFrame q.input q.slot) comp dx dy

/-- The cross-fade mix of a to-value and a from-value (R69). -/
def crossMix (t toValue fromValue : Nat) : Nat := (t * toValue + (64 - t) * fromValue + 32) / 64

/-- The value P of a window at a covered point: the border colour (R50), or its picture, mixed while it cross-fades (R58). -/
def State.windowValue (s : State) (w : PlanWindow) (comp : Component) (x y : Nat) : Nat :=
  if w.isBorder x y then w.borderColour.component comp
  else
    let dx := x - w.rect.x0
    let dy := y - w.rect.y0
    match w.fromSide with
    | none => s.pictureValue w.picture comp dx dy
    | some f => crossMix f.weight (s.pictureValue w.picture comp dx dy) (s.pictureValue f.picture comp dx dy)

/-- The blend of a value P over the running colour C at opacity a (R60). -/
def blend (a p c : Nat) : Nat := (a * p + (64 - a) * c + 32) / 64

/-- One window laid over the running colour (R48, R49). -/
def State.layOver (s : State) (comp : Component) (x y : Nat) (c : Nat) (w : PlanWindow) : Nat :=
  if w.covers x y then blend w.opacity (s.windowValue w comp x y) c else c

/-- The output value of a pixel of the frame a plan gives (R48). -/
def State.planPixel (s : State) (p : Plan) (comp : Component) (x y : Nat) : Nat :=
  p.windows.foldl (s.layOver comp x y) (p.background.component comp)

/-- What the output of screen k carries at a pixel: none for blank video with no synchronisation (R80). A RUNNING screen before its first
frame start is blank (R83); that it then carries no synchronisation either is the model's choice (DESIGN CHOICE, log 25): R83 says blank
and no more, and R80 gives a RUNNING screen synchronisation. -/
def State.outputPixel (s : State) (k : ScreenId) (comp : Component) (x y : Nat) : Option Nat :=
  if s.screens[k].mode = .running then s.screens[k].plan.map fun p => s.planPixel p comp x y else none

/-! ### The probe's answer -/

/-- The sample position of a covered point (R62): none at a border point and for a plain to-picture. -/
def PlanWindow.samplePosition (w : PlanWindow) (x y : Nat) : Option (Nat × Nat) :=
  if w.isBorder x y then none
  else
    match w.picture with
    | .plain _ => none
    | .slot q => some (q.samplePosition (x - w.rect.x0) (y - w.rect.y0))

/-- The covering window with the largest stacking key (R93). -/
def Plan.uppermost (p : Plan) (x y : Nat) : Option PlanWindow := (p.windows.filter fun w => w.covers x y).getLast?

/-- The answer of a probe at (x, y) from the plan of the frame that begins (R93). -/
def Plan.probe (p : Plan) (x y : Nat) (frame : BitVec 16) : ProbeAnswer :=
  match p.uppermost x y with
  | none => ⟨.none, none, none, none, none, frame⟩
  | some w =>
    ⟨.window, some w.handle, some (if w.isBorder x y then .border else .picture), some w.mode, w.samplePosition x y, frame⟩

end Sys2Proof.Machine
end

