-- ==== Sys2Proof/Machine/Frames.lean ====
section
/-! DEFINITION. The frame start of a screen (R86): commit, transitions, refresh, pins, plan, probe, standby; and the rows FRAME_START,
TRANSITION_END and HOLD_END. -/

namespace Sys2Proof.Machine

/-- A SEALED stage is committed at the frame start of its screen (R39). -/
def Stage.commits : Stage → Bool
  | .sealed _ _ => true
  | .empty | .opened _ _ => false

/-- What a frame start of screen k makes of a window of the screen: the commit of a SEALED stage, its transition, its refresh (R39 to
R43, R66, R115). -/
def State.frameWindow (s : State) (k : ScreenId) (w : Window) : Window :=
  s.windowFrame s.screens[k].plan.isNone s.stages[k].commits w

/-- The table of windows as a frame start of screen k leaves it. -/
def State.frameWindows (s : State) (k : ScreenId) : Vector Window 64 :=
  mapTable (fun _ w => if w.belongsTo k then s.frameWindow k w else w) s.windows

/-- A SEALED stage is committed at the frame start and becomes EMPTY (R39). -/
def Stage.afterFrame : Stage → Stage
  | .empty => .empty
  | .opened owner count => .opened owner count
  | .sealed _ _ => .empty

/-- Some window entered SLATED (R129). -/
def anyEntersSlated (before after : Vector Window 64) : Bool :=
  (List.finRange 64).any fun h => entersSlated before[h] after[h]

/-- The probe slot after a frame start: a WAITING probe is answered from the plan (R93). -/
def ProbeSlot.atFrame (p : ProbeSlot) (plan : Plan) (frame : BitVec 16) : ProbeSlot :=
  match p with
  | .waiting x y => .answered (plan.probe x y frame)
  | .empty => .empty
  | .answered a => .answered a

/-- The screen record after a frame start, from the table it leaves (R86, R87, R89, R91). -/
def State.frameScreen (s : State) (k : ScreenId) : Screen :=
  let c := s.screens[k]
  let plan := s.makePlan k
  let shown := s.hasShown k
  { c with
    mode := if shown then .running else c.mode
    idleCount := if shown then 0 else c.idleCount
    frame := c.frame + 1
    pins := s.takePins k
    probe := c.probe.atFrame plan (c.frame + 1)
    plan := some plan }

/-- A STANDBY screen that finds a shown window returns to RUNNING (R91). -/
def State.wakes (s : State) (k : ScreenId) : Bool :=
  decide (s.screens[k].mode = .standby) && s.hasShown k

/-- A frame start of screen k, RUNNING or STANDBY (R86): the windows and the stage first, then pins, plan, probe and standby from the
table they leave, then the causes SLATED, PROBE and STANDBY. -/
def State.beginFrame (s : State) (k : ScreenId) : State :=
  let t := { s.setStage k s.stages[k].afterFrame with windows := s.frameWindows k }
  (((t.setScreen k (t.frameScreen k)).raiseIf (anyEntersSlated s.windows t.windows) .slated).raiseIf
    s.screens[k].probe.isWaiting .probe).raiseIf (t.wakes k) .standby

/-- FRAME_START of screen k: an OFF screen has no frame starts (R80). -/
def execFrameStart (k : ScreenId) (s : State) : Host.Outcome State Fault Refusal :=
  .next (if s.screens[k].mode = .off then s else s.beginFrame k)

/-- The screen of the window has frame starts (R80). -/
def State.hasFrames (s : State) (w : Window) : Bool :=
  match w.screen with
  | none => false
  | some k => decide (s.screens[k].mode ≠ .off)

/-- TRANSITION_END of window h: the frame start of its screen reaches this window, whose transition showed its last step, and ends the
transition (R66; log 4). -/
def execTransitionEnd (h : Handle) (s : State) : Host.Outcome State Fault Refusal :=
  .next (if s.hasFrames s.windows[h] && s.windows[h].showedLastStep then s.setWindow h s.windows[h].finishTransition else s)

/-- A frame start of its screen would end the hold of window h (R124). -/
def State.holdDue (s : State) (h : Handle) : Bool :=
  match s.windows[h].screen with
  | none => false
  | some k => decide (s.screens[k].mode ≠ .off) && holdEnds s.windows[h] (s.frameWindow k s.windows[h])

/-- HOLD_END of window h: the frame start of its screen reaches this window, whose hold count has reached its limit, and makes it
SLATED, raising the SLATED cause (R124, R129; log 4). -/
def execHoldEnd (h : Handle) (s : State) : Host.Outcome State Fault Refusal :=
  .next (if s.holdDue h then (s.setWindow h s.windows[h].toSlated).raise .slated else s)

end Sys2Proof.Machine
end

