-- ==== Sys2Proof/Decode.lean ====
section
/-! DEFINITION. The command codes and lengths of the control port (11_control_port_formats.md R188), the reading of a transaction's
bytes as a command (R169, R172), the bytes a command is sent as, and `decodeTableWord`: no row of spec/opcode_table.json gives bits,
so no word spells a command there (log 20). -/

namespace Sys2Proof

/-- The opcode byte of each command (table of 11.1). -/
def Opcode.code : Opcode → Byte
  | .identify => 0x01#8
  | .resetLayout => 0x02#8
  | .placeWindow => 0x10#8
  | .amendWindow => 0x11#8
  | .retireWindow => 0x12#8
  | .readWindow => 0x13#8
  | .listScreen => 0x14#8
  | .sealStage => 0x20#8
  | .discardStage => 0x21#8
  | .readStage => 0x22#8
  | .configureStages => 0x23#8
  | .configureScreen => 0x30#8
  | .startScreen => 0x31#8
  | .stopScreen => 0x32#8
  | .readScreen => 0x33#8
  | .probePoint => 0x34#8
  | .probeResult => 0x35#8
  | .configureInputs => 0x40#8
  | .readInput => 0x41#8
  | .setCarousel => 0x50#8
  | .startCarousel => 0x51#8
  | .stopCarousel => 0x52#8
  | .stepCarousel => 0x53#8
  | .readCarousel => 0x54#8
  | .storeScene => 0x60#8
  | .captureScene => 0x61#8
  | .clearScene => 0x62#8
  | .readScene => 0x63#8
  | .recallScene => 0x64#8
  | .bindKey => 0x70#8
  | .readKeys => 0x71#8
  | .readEvents => 0x78#8
  | .clearEvents => 0x79#8
  | .setEventControl => 0x7A#8

/-- Every command of the part, in the order of table 11.1. -/
def Opcode.all : List Opcode :=
  [.identify, .resetLayout, .placeWindow, .amendWindow, .retireWindow, .readWindow, .listScreen,
   .sealStage, .discardStage, .readStage, .configureStages,
   .configureScreen, .startScreen, .stopScreen, .readScreen, .probePoint, .probeResult,
   .configureInputs, .readInput,
   .setCarousel, .startCarousel, .stopCarousel, .stepCarousel, .readCarousel,
   .storeScene, .captureScene, .clearScene, .readScene, .recallScene,
   .bindKey, .readKeys, .readEvents, .clearEvents, .setEventControl]

/-- The command an opcode byte names, if it names one (R188: every other value names no command). -/
def Opcode.ofByte? (b : Byte) : Option Opcode :=
  Opcode.all.find? fun op => op.code == b

/-- The length of a command that carries a list: `fixed` argument bytes, the last of them the count, then `size` bytes for each
entry. Not known before the count byte has arrived. A count above `most` makes the count byte the last argument byte (R169, R188). -/
def listLength (fixed size most : Nat) (args : List Byte) : Option Nat :=
  match args[fixed - 1]? with
  | none => none
  | some count => if most < count.toNat then some fixed else some (fixed + size * count.toNat)

/-- How many argument bytes the command has, as far as the bytes already received say (R169, R188). -/
def Opcode.argumentCount (op : Opcode) (args : List Byte) : Option Nat :=
  match op with
  | .identify | .resetLayout | .readKeys | .readEvents => some 0
  | .placeWindow => some 34
  | .amendWindow => some 37
  | .retireWindow | .listScreen | .sealStage | .discardStage | .readStage | .configureStages => some 1
  | .readWindow => some 2
  | .configureScreen => some 8
  | .startScreen | .stopScreen | .readScreen | .probeResult => some 1
  | .probePoint => some 5
  | .configureInputs => some 3
  | .readInput => some 1
  | .setCarousel => listLength 6 3 Config.maxCarouselEntries args
  | .startCarousel | .stopCarousel | .stepCarousel | .readCarousel => some 1
  | .storeScene => listLength 3 34 Config.maxSceneEntries args
  | .captureScene => some 2
  | .clearScene | .readScene | .recallScene => some 1
  | .bindKey => some 5
  | .clearEvents => some 1
  | .setEventControl => some 4

/-- What the bytes of a transaction have said so far. -/
inductive Received where
  /-- The last argument byte has not arrived (R169, R171). -/
  | incomplete
  /-- The opcode byte names no command (R172). -/
  | unknown
  /-- A whole command with its argument bytes (R169). -/
  | command (op : Opcode) (args : List Byte)
  deriving DecidableEq, Repr

/-- Reads the bytes of a transaction from its opcode byte (R169, R172). Bytes after the last argument byte are disregarded (R168). -/
def decodeBytes : List Byte → Received
  | [] => .incomplete
  | opcode :: args =>
    match Opcode.ofByte? opcode with
    | none => .unknown
    | some op =>
      match op.argumentCount args with
      | none => .incomplete
      | some n => if args.length < n then .incomplete else .command op (args.take n)

/-- The row of the table that a command with these argument bytes is. -/
def Opcode.instr (op : Opcode) (args : List Byte) : Instr :=
  match op with
  | .identify => .identify
  | .resetLayout => .resetLayout
  | .placeWindow => .placeWindow args
  | .amendWindow => .amendWindow args
  | .retireWindow => .retireWindow args
  | .readWindow => .readWindow args
  | .listScreen => .listScreen args
  | .sealStage => .sealStage args
  | .discardStage => .discardStage args
  | .readStage => .readStage args
  | .configureStages => .configureStages args
  | .configureScreen => .configureScreen args
  | .startScreen => .startScreen args
  | .stopScreen => .stopScreen args
  | .readScreen => .readScreen args
  | .probePoint => .probePoint args
  | .probeResult => .probeResult args
  | .configureInputs => .configureInputs args
  | .readInput => .readInput args
  | .setCarousel => .setCarousel args
  | .startCarousel => .startCarousel args
  | .stopCarousel => .stopCarousel args
  | .stepCarousel => .stepCarousel args
  | .readCarousel => .readCarousel args
  | .storeScene => .storeScene args
  | .captureScene => .captureScene args
  | .clearScene => .clearScene args
  | .readScene => .readScene args
  | .recallScene => .recallScene args
  | .bindKey => .bindKey args
  | .readKeys => .readKeys
  | .readEvents => .readEvents
  | .clearEvents => .clearEvents args
  | .setEventControl => .setEventControl args

/-- The command code and argument bytes of a control-port row; none for an event and for BAD_OPCODE. -/
def Instr.portCommand : Instr → Option (Opcode × List Byte)
  | .identify => some (.identify, [])
  | .resetLayout => some (.resetLayout, [])
  | .placeWindow args => some (.placeWindow, args)
  | .amendWindow args => some (.amendWindow, args)
  | .retireWindow args => some (.retireWindow, args)
  | .readWindow args => some (.readWindow, args)
  | .listScreen args => some (.listScreen, args)
  | .sealStage args => some (.sealStage, args)
  | .discardStage args => some (.discardStage, args)
  | .readStage args => some (.readStage, args)
  | .configureStages args => some (.configureStages, args)
  | .configureScreen args => some (.configureScreen, args)
  | .startScreen args => some (.startScreen, args)
  | .stopScreen args => some (.stopScreen, args)
  | .readScreen args => some (.readScreen, args)
  | .probePoint args => some (.probePoint, args)
  | .probeResult args => some (.probeResult, args)
  | .configureInputs args => some (.configureInputs, args)
  | .readInput args => some (.readInput, args)
  | .setCarousel args => some (.setCarousel, args)
  | .startCarousel args => some (.startCarousel, args)
  | .stopCarousel args => some (.stopCarousel, args)
  | .stepCarousel args => some (.stepCarousel, args)
  | .readCarousel args => some (.readCarousel, args)
  | .storeScene args => some (.storeScene, args)
  | .captureScene args => some (.captureScene, args)
  | .clearScene args => some (.clearScene, args)
  | .readScene args => some (.readScene, args)
  | .recallScene args => some (.recallScene, args)
  | .bindKey args => some (.bindKey, args)
  | .readKeys => some (.readKeys, [])
  | .readEvents => some (.readEvents, [])
  | .clearEvents args => some (.clearEvents, args)
  | .setEventControl args => some (.setEventControl, args)
  | .badOpcode _ | .transactionBegin | .transactionEnd | .pinReset | .resetPinRelease | .initialisationRestart
  | .initialisationEnd | .scanTick _ _ | .lossTimeout _ | .keyPress _ | .keyRelease _ | .keyRepeat _ | .dwellTick
  | .carouselAdvance _ | .stageExpiry _ | .holdEnd _ | .minute | .standbyEntry _ | .frameStart _ | .transitionEnd _
  | .feedFrameStart _ | .feedFrameEnd _ _ | .pulseEnd => none

/-- The bytes a control-port row is sent as: its opcode byte and its argument bytes (R188). -/
def Instr.bytes (i : Instr) : Option (List Byte) :=
  match i.portCommand, i with
  | some (op, args), _ => some (op.code :: args)
  | none, .badOpcode b => some [b]
  | none, _ => none

/-- The row that the bytes of a transaction spell, once they hold a whole command or an opcode byte that names none. -/
def decodeTransaction (bytes : List Byte) : Option Instr :=
  match decodeBytes bytes, bytes with
  | .command op args, _ => some (op.instr args)
  | .unknown, b :: _ => some (.badOpcode b)
  | _, _ => none

/-- The command a word spells by the table's bits. The table gives bits to no row (log 20). -/
def decodeTableWord (_nbits _w : Nat) : Option Instr := none

end Sys2Proof
end

