-- ==== Sys2Proof/Machine/Events.lean ====
section
/-! DEFINITION. IDENTIFY (R176), RESET LAYOUT (R177) and the event commands (R182 to R185). -/

namespace Sys2Proof.Machine

/-- IDENTIFY (R176): vendor, part and revision codes (11.5). -/
def identify (s : State) : Answer := reply ([Config.vendorCode] ++ bytes2 Config.partCode ++ [Config.revision]) s

/-- RESET LAYOUT (R177): windows FREE (R23), stages EMPTY (R44), idle counts 0 and probe slots EMPTY (R96), carousels STOPPED at entry 0
(R149); everything else is kept, the plans and pins of the frames in progress with it (R46, R96). -/
def resetLayout (s : State) : Answer :=
  reply []
    { s with
      windows := mapTable (fun _ _ => .free) s.windows
      stages := mapTable (fun _ _ => .empty) s.stages
      screens := mapTable (fun _ c => { c with idleCount := 0, probe := .empty }) s.screens
      carousels := mapTable (fun _ c => c.rewind) s.carousels }

/-- A clear of the INPUT flag is held: sensitivity LEVEL, and an input whose event enable is yes is ABSENT (R184). -/
def State.inputHeld (s : State) : Bool :=
  decide (s.events.sensitivity = .level)
    && (List.finRange 12).any fun i => s.inputs[i].eventEnable && s.inputs[i].presence.isAbsent

/-- READ EVENTS (R182): the flags as they stand when it is taken and the settings; in READ-CLEARS the returned flags are then cleared,
subject to R184 (log 10). -/
def readEvents (s : State) : Answer :=
  let e := s.events
  reply [e.flags, e.mask, e.lineMode.code, e.clearMode.code, e.sensitivity.code]
    (match e.clearMode with
     | .readClears => { s with events := e.clear e.flags s.inputHeld }
     | .writeClears => s)

/-- CLEAR EVENTS (R183, R184). -/
def clearEvents (args : List Byte) (s : State) : Answer :=
  reply [] { s with events := s.events.clear (arg args 0) s.inputHeld }

/-- SET EVENT CONTROL (R185). -/
def setEventControl (args : List Byte) (s : State) : Answer :=
  match lineModeOf (arg args 1), clearModeOf (arg args 2), sensitivityOf (arg args 3) with
  | some line, some clear, some sensitivity =>
    reply [] { s with events := s.events.configure (arg args 0) line clear sensitivity }
  | _, _, _ => refuse .badArgument s

end Sys2Proof.Machine
end

