-- ==== Sys2Proof/Machine/Inputs.lean ====
section
/-! DEFINITION. Inputs and the frame store (chapter 6): measuring a frame (R99), frame start and frame end of a feed (R100 to R103),
the writer's slot (R107), the newest complete frame (R109), the scan tick at an input (R104), CONFIGURE INPUTS and READ INPUT. -/

namespace Sys2Proof.Machine

/-! ### Measuring a frame (R99) -/

/-- A count that stops at 4095. -/
def measured (n : Nat) : Nat := min n Config.measureLimit

/-- The size is one a feed may have (R99). -/
def Size.inRange (z : Size) : Bool :=
  decide (Config.minFrameSide ≤ z.width ∧ z.width ≤ Config.maxFrameWidth
    ∧ Config.minFrameSide ≤ z.height ∧ z.height ≤ Config.maxFrameHeight)

end Sys2Proof.Machine

namespace Sys2Proof

open Machine in
/-- The size of a delivered frame when it is in range; none for an irregular frame, a frame with no lines, and any size out of range
(R99). -/
def FeedFrame.size (f : FeedFrame) : Option Size :=
  match f.lines with
  | [] => none
  | line :: rest =>
    let z : Size := ⟨measured line.length, measured (rest.length + 1)⟩
    if f.trailing = [] ∧ rest.all (fun l => measured l.length == z.width) ∧ z.inRange then some z else none

/-- A delivery and what the feed delivers after it: the line that was not ended goes on. -/
def FeedFrame.append (f g : FeedFrame) : FeedFrame :=
  match g.lines with
  | [] => ⟨f.lines, f.trailing ++ g.trailing⟩
  | l :: ls => ⟨f.lines ++ (f.trailing ++ l) :: ls, g.trailing⟩

/-- The pixels the writer stores of a delivered frame, each at its column and row; those after the last line marker stand in the row
that no marker ended. None of a column beyond 1919 or a row beyond 1079 is stored (R99). -/
def FeedFrame.stored (f : FeedFrame) : Pixels :=
  ((f.lines ++ [f.trailing]).take Config.maxFrameHeight).map fun l => l.take Config.maxFrameWidth

end Sys2Proof

namespace Sys2Proof.Machine

/-! ### The feed -/

/-- The presence after a frame start (R100): an ABSENT input becomes ACQUIRING; a frame in progress is incomplete, and leaves the
input ACQUIRING with no candidate. -/
def Presence.atFrameStart (p : Presence) (f : InProgress) : Presence :=
  match p, f with
  | .absent, _ => .acquiring none
  | .acquiring c, .none => .acquiring c
  | .present z, .none => .present z
  | .acquiring _, .stored _ _ | .acquiring _, .unstored _ => .acquiring none
  | .present _, .stored _ _ | .present _, .unstored _ => .acquiring none

/-- The slot the writer gives a new frame at input i, its frame in progress discarded: the lowest-numbered slot that is FREE and
pinned by no screen (R107). -/
def State.writerSlot (s : State) (i : InputId) : Option SlotId :=
  (List.finRange 3).find? fun j => s.inputs[i].newest ≠ some j && !s.pinned i j

/-- The writer puts the pixels delivered of a STORED frame into its slot, over the contents that stand there (R99, R108); those of an
UNSTORED frame go nowhere. The size tag stays that of the last frame that made the slot NEWEST. -/
def Input.store (p : Input) (f : FeedFrame) : Input :=
  match p.inProgress.slot with
  | none => p
  | some j => { p with slots := p.slots.set j { p.slots[j] with contents := storePixels p.slots[j].contents f.stored } }

/-- The frame in progress begins in the slot the writer gives it, or is UNSTORED (R107); the port measures it either way. -/
def Input.begin (p : Input) (slot : Option SlotId) (f : FeedFrame) : Input :=
  match slot with
  | none => { p with inProgress := .unstored f }
  | some j => ({ p with inProgress := .stored j f } : Input).store f

/-- A frame start of the feed at input i (R100, R107) with the pixels that follow it, disregarded until the part is ready (R98). -/
def State.feedFrameStart (s : State) (i : InputId) (f : FeedFrame) : State :=
  if s.startup = .ready then
    let t := s.setPresence i (s.inputs[i].presence.atFrameStart s.inputs[i].inProgress)
    t.setInput i (({ t.inputs[i] with lossCount := 0 } : Input).begin (s.writerSlot i) f)
  else s

/-- The presence after a complete frame of this size (R101, R102). -/
def Presence.atFrameEnd (p : Presence) (size : Option Size) : Presence :=
  match p with
  | .absent => .absent
  | .acquiring candidate =>
    match size with
    | none => .acquiring none
    | some z => if candidate = some z then .present z else .acquiring (some z)
  | .present confirmed =>
    match size with
    | none => .acquiring none
    | some z => if confirmed = z then .present confirmed else .acquiring (some z)

/-- The record as the frame in progress is completed: a frame that leaves the input PRESENT becomes the newest complete frame if it is
STORED, with its size as tag (R101, R102, R109); any other frame's slot becomes free with what was written into it (R108). -/
def Input.complete (p : Input) (size : Option Size) (accepted : Bool) : Input :=
  match p.inProgress.slot, size, accepted with
  | some j, some z, true =>
    { p with inProgress := .none, newest := some j, slots := p.slots.set j { p.slots[j] with tag := z } }
  | _, _, _ => { p with inProgress := .none }

/-- A frame end of the feed at input i (R101 to R103) after the pixels `f`, disregarded until the part is ready (R98) and while no frame
is in progress (R103). -/
def State.feedFrameEnd (s : State) (i : InputId) (f : FeedFrame) : State :=
  match s.startup, s.inputs[i].inProgress.delivered with
  | .ready, some d =>
    let frame := d.append f
    let p := s.inputs[i].presence.atFrameEnd frame.size
    let t := s.setPresence i p
    t.setInput i ((t.inputs[i].store frame).complete frame.size p.isPresent)
  | .ready, none | .held, _ | .initialising, _ => s

/-- The loss count of input i reaches the loss timeout at this scan tick (R104). -/
def State.losesInput (s : State) (i : InputId) : Bool :=
  !s.inputs[i].presence.isAbsent && decide (s.lossTimeout ≤ s.inputs[i].lossCount + 1)

/-- The scan tick at input i (R104): the loss count of an ACQUIRING or PRESENT input advances; one that reaches the loss timeout makes
the input ABSENT and abandons its frame in progress. -/
def State.lossTick (s : State) (i : InputId) : State :=
  if s.inputs[i].presence.isAbsent then s
  else
    let t := s.setInput i { s.inputs[i] with lossCount := s.inputs[i].lossCount + 1 }
    if s.losesInput i then
      let u := t.setPresence i .absent
      u.setInput i { u.inputs[i] with inProgress := .none }
    else t

/-! ### Commands -/

/-- CONFIGURE INPUTS (R112): the timeout clamped to 4-25, the event enables of the twelve inputs; bits 12-15 are disregarded (R189). -/
def configureInputs (args : List Byte) (s : State) : Answer :=
  let enables := BitVec.ofNat 16 (num2 args 1)
  reply []
    { s with
      lossTimeout := max 4 (min 25 (num args 0))
      inputs := mapTable (fun i p => { p with eventEnable := enables.getLsbD i }) s.inputs }

def sizeBytes (z : Option Size) : List Byte :=
  match z with
  | none => bytes2 0 ++ bytes2 0
  | some z => bytes2 z.width ++ bytes2 z.height

def Presence.confirmed : Presence → Option Size
  | .present z => some z
  | .absent | .acquiring _ => none

def Presence.candidate : Presence → Option Size
  | .acquiring c => c
  | .absent | .present _ => none

def Role.code : Role → Byte
  | .free => 0x00#8
  | .writing => 0x01#8
  | .newest => 0x02#8

/-- The response of READ INPUT (R113, 11.5). -/
def State.inputResponse (s : State) (i : InputId) : List Byte :=
  let p := s.inputs[i]
  [p.presence.code] ++ sizeBytes p.presence.confirmed ++ sizeBytes p.presence.candidate
    ++ [flagByte p.changed, flagByte p.eventEnable, byte s.lossTimeout, orNone p.newest]
    ++ sizeBytes (p.newest.map fun j => p.slots[j].tag)
    ++ (List.finRange 3).flatMap fun j => [(p.role j).code, s.pinSet i j]

/-- READ INPUT (R113): the changed mark is read as it stood, then cleared. -/
def readInput (args : List Byte) (s : State) : Answer :=
  match ident 12 (arg args 0) with
  | none => refuse .badArgument s
  | some i => reply (s.inputResponse i) (s.setInput i { s.inputs[i] with changed := false })

end Sys2Proof.Machine
end

