-- ==== Sys2Proof/Machine/Windows.lean ====
section
/-! DEFINITION. The window table's commands (chapter 1): PLACE, AMEND, RETIRE, READ WINDOW and LIST SCREEN, as taken by a part that is
ready. `args` are the command's argument bytes (11.6). -/

namespace Sys2Proof.Machine

/-- PLACE WINDOW (R17): screen, stage, handle, fields, in that order. -/
def placeWindow (args : List Byte) (s : State) : Answer :=
  match ident 8 (arg args 0) with
  | none => refuse .badArgument s
  | some k =>
    match s.stages[k].refusal .link with
    | some code => refuse code s
    | none =>
      match s.lowestFree with
      | none => refuse .noHandles s
      | some h =>
        match recordFields k args with
        | .error code => refuse code s
        | .ok f => reply [byte h] ((s.setWindow h (.staged f)).edited .link k)

/-- The copy an AMEND WINDOW edits: the pending copy, or an exact copy of the live copy (R19). A FREE window is refused with
FREE_HANDLE, a RETIRING or marked one with RETIRING (R18). -/
def Window.amendBase : Window → Except ResultCode WindowFields
  | .free => .error .freeHandle
  | .staged p => .ok p
  | .live c .none _ _ => .ok c
  | .live _ (.amended p) _ _ => .ok p
  | .live _ .retire _ _ => .error .retiring
  | .retiring _ _ _ => .error .retiring

/-- The window with a new pending copy (R19). -/
def Window.amend (w : Window) (f : WindowFields) : Window :=
  match w with
  | .free => .free
  | .staged _ => .staged f
  | .live c _ v t => .live c (.amended f) v t
  | .retiring c v o => .retiring c v o

/-- AMEND WINDOW (R18, R19): handle, FREE, RETIRING, stage, selected groups, in that order. -/
def amendWindow (args : List Byte) (s : State) : Answer :=
  match ident 64 (arg args 0) with
  | none => refuse .badArgument s
  | some h =>
    match s.windows[h].amendBase with
    | .error code => refuse code s
    | .ok base =>
      match s.stages[base.screen].refusal .link with
      | some code => refuse code s
      | none =>
        match editFields (BitVec.ofNat 16 (num2 args 1)) (args.drop 3) base with
        | .error code => refuse code s
        | .ok f => reply [] ((s.setWindow h (s.windows[h].amend f)).edited .link base.screen)

/-- The window after its retirement is taken: a STAGED window is FREE at once, a LIVE one is marked and loses its pending copy
(R20). -/
def Window.retire : Window → Window
  | .free => .free
  | .staged _ => .free
  | .live c _ v t => .live c .retire v t
  | .retiring c v o => .retiring c v o

/-- RETIRE WINDOW (R20): handle, FREE, RETIRING, stage, in that order. -/
def retireWindow (args : List Byte) (s : State) : Answer :=
  match ident 64 (arg args 0) with
  | none => refuse .badArgument s
  | some h =>
    match s.windows[h].amendBase with
    | .error code => refuse code s
    | .ok base =>
      match s.stages[base.screen].refusal .link with
      | some code => refuse code s
      | none => reply [] ((s.setWindow h s.windows[h].retire).edited .link base.screen)

/-- Transition kind, step and length as READ WINDOW reports them (R21, R64). -/
def Window.transitionBytes : Window → List Byte
  | .free | .staged _ | .live _ _ _ none => [0x00#8, 0x00#8, 0x00#8]
  | .live _ _ _ (some (.fadeIn k n)) => [0x01#8, byte k, byte n]
  | .retiring _ _ f => [0x02#8, byte f.k, byte f.n]
  | .live _ _ _ (some (.crossfade k n _)) => [0x03#8, byte k, byte n]

/-- The window state's code (R189). -/
def Window.code : Window → Byte
  | .free => 0x00#8
  | .staged _ => 0x01#8
  | .live _ _ _ _ => 0x02#8
  | .retiring _ _ _ => 0x03#8

/-- Bit 0 live copy, bit 1 pending copy, bit 2 retire mark (11.5, READ WINDOW). -/
def Window.presenceFlags (w : Window) : Byte :=
  (if w.liveCopy.isSome then 0x01#8 else 0x00#8) ||| (if w.pendingCopy.isSome then 0x02#8 else 0x00#8)
    ||| (if w.retireMark then 0x04#8 else 0x00#8)

/-- The response of READ WINDOW with the requested copy (11.5). -/
def Window.response (w : Window) (copy : Option WindowFields) : List Byte :=
  [w.code, w.presenceFlags] ++ copyBytes copy
    ++ [(w.mode.map DisplayMode.code).getD 0x00#8, orNone (w.view.bind View.effective)] ++ w.transitionBytes

/-- READ WINDOW (R21). -/
def readWindow (args : List Byte) (s : State) : Answer :=
  match ident 64 (arg args 0) with
  | none => refuse .badArgument s
  | some h =>
    if arg args 1 = 0x00#8 then reply (s.windows[h].response s.windows[h].liveCopy) s
    else if arg args 1 = 0x01#8 then reply (s.windows[h].response s.windows[h].pendingCopy) s
    else refuse .badArgument s

/-- Every window of screen k that is not FREE, in ascending stacking key (R22). -/
def State.screenList (s : State) (k : ScreenId) : List Handle :=
  stackOrder fun h => if s.windows[h].belongsTo k then s.windows[h].listLayer else none

/-- LIST SCREEN (R22). -/
def listScreen (args : List Byte) (s : State) : Answer :=
  match ident 8 (arg args 0) with
  | none => refuse .badArgument s
  | some k =>
    let handles := s.screenList k
    reply (byte handles.length :: handles.map fun h => byte h) s

end Sys2Proof.Machine
end

