-- ==== Sys2Proof/Machine/Scenes.lean ====
section
/-! DEFINITION. Scenes and the key panel (chapter 9): STORE, CAPTURE, CLEAR, READ, RECALL SCENE, BIND KEY, READ KEYS, the recall of either
party (R156 to R158), the key actions (R163) and the scan tick at a key (R161, R162). -/

namespace Sys2Proof.Machine

/-! ### Storing, capturing, clearing, reading -/

/-- The 34 bytes of each of the entries that follow. -/
def recordsOf (args : List Byte) : Nat → List (List Byte)
  | 0 => []
  | n + 1 => args.take 34 :: recordsOf (args.drop 34) n

/-- The screen an entry names, if it is a covered one (R152 test 3). -/
def coveredScreen (covered : Byte) (r : List Byte) : Option ScreenId :=
  match ident 8 (arg r 0) with
  | none => none
  | some k => if covered.getLsbD k then some k else none

/-- The screens of all entries; none if one of them names no covered screen (R152 test 3). -/
def entryScreens (covered : Byte) : List (List Byte) → Option (List ScreenId)
  | [] => some []
  | r :: rest =>
    match coveredScreen covered r, entryScreens covered rest with
    | some k, some ks => some (k :: ks)
    | _, _ => none

/-- The fields of all entries, or the result of the first one that fails the tests of R14 (R152 test 4). -/
def entryFields : List ScreenId → List (List Byte) → Except ResultCode (List WindowFields)
  | k :: ks, r :: rs =>
    match recordFields k r with
    | .error code => .error code
    | .ok f =>
      match entryFields ks rs with
      | .error code => .error code
      | .ok fs => .ok (f :: fs)
  | _, _ => .ok []

/-- STORE SCENE (R152, R153): number, count, the screens of all entries, the fields of all entries, in that order (log 11). -/
def storeScene (args : List Byte) (s : State) : Answer :=
  match ident 16 (arg args 0) with
  | none => refuse .badArgument s
  | some n =>
    if Config.maxSceneEntries < num args 2 then refuse .badArgument s
    else
      let records := recordsOf (args.drop 3) (num args 2)
      match entryScreens (arg args 1) records with
      | none => refuse .badArgument s
      | some screens =>
        match entryFields screens records with
        | .error code => refuse code s
        | .ok fields => reply [] (s.setScene n ⟨arg args 1, fields⟩)

/-- The live copy of a window that CAPTURE SCENE gathers: LIVE, not pinned, not marked (R154). -/
def Window.captured : Window → Option WindowFields
  | .live c .none _ _ | .live c (.amended _) _ _ => if c.pinned then none else some c
  | .live _ .retire _ _ | .free | .staged _ | .retiring _ _ _ => none

/-- The gathered windows of screen k in ascending stacking key (R154). -/
def State.gatherScreen (s : State) (k : ScreenId) : List WindowFields :=
  (s.screenList k).filterMap fun h => s.windows[h].captured

/-- The gathered windows of a set of screens, by ascending screen number (R154). -/
def State.gather (s : State) (screens : Byte) : List WindowFields :=
  (List.finRange 8).flatMap fun (k : ScreenId) => if screens.getLsbD k then s.gatherScreen k else []

/-- CAPTURE SCENE (R154); the response is the number of entries written (11.5). -/
def captureScene (args : List Byte) (s : State) : Answer :=
  match ident 16 (arg args 0) with
  | none => refuse .badArgument s
  | some n =>
    let entries := s.gather (arg args 1)
    if Config.maxSceneEntries < entries.length then refuse .sceneFull s
    else reply [byte entries.length] (s.setScene n ⟨arg args 1, entries⟩)

/-- CLEAR SCENE (R155). -/
def clearScene (args : List Byte) (s : State) : Answer :=
  match ident 16 (arg args 0) with
  | none => refuse .badArgument s
  | some n => reply [] (s.setScene n ⟨0x00#8, []⟩)

/-- READ SCENE (R155, 11.5). -/
def readScene (args : List Byte) (s : State) : Answer :=
  match ident 16 (arg args 0) with
  | none => refuse .badArgument s
  | some n =>
    let r := s.scenes[n]
    reply ([r.covered, byte r.entries.length] ++ r.entries.flatMap WindowFields.bytes) s

/-! ### Recall -/

/-- Screen k is applicable to a recall by a caller (R156). -/
def State.applicable (s : State) (caller : Party) (k : ScreenId) : Bool :=
  decide (s.screens[k].mode ≠ .off ∧ s.stages[k] = .empty ∧ (caller = .panel → s.screens[k].keypadLock = false))

/-- The recall marks the window (R157): every LIVE one for LINK, every unpinned LIVE one for PANEL. -/
def Window.marks (w : Window) (caller : Party) : Bool :=
  match w with
  | .live c _ _ _ => decide (caller = .panel → c.pinned = false)
  | .free | .staged _ | .retiring _ _ _ => false

/-- The windows that a recall by a caller marks on screen k. -/
def State.marked (s : State) (caller : Party) (k : ScreenId) : List Handle :=
  (List.finRange 64).filter fun h => s.windows[h].belongsTo k && s.windows[h].marks caller

/-- An entry is placed on the lowest FREE handle (R157). R156 has counted the handles: there is one. -/
def State.placeEntry (s : State) (f : WindowFields) : State :=
  match s.lowestFree with
  | none => s
  | some h => s.setWindow h (.staged f)

/-- A recall carried out on one applicable screen (R157): marks, placements in list order, and a SEALED stage with the caller as
owner. -/
def State.recallScreen (s : State) (caller : Party) (entries : List WindowFields) (k : ScreenId) : State :=
  let t :=
    { s with
      windows := mapTable (fun _ w => if w.belongsTo k && w.marks caller then w.retire else w) s.windows }
  ((entries.filter fun f => f.screen = k).foldl State.placeEntry t).setStage k (.sealed caller 0)

/-- What a recall that is carried out reports (R158). -/
structure Recalled where
  complete : Bool
  screens : Byte
  placed : Nat
  marked : Nat
  after : State
  deriving DecidableEq, Repr

/-- A recall of scene n by a caller (R156 to R158): the refusal, or what it did. -/
def State.recall (s : State) (caller : Party) (n : SceneId) : Except ResultCode Recalled :=
  let r := s.scenes[n]
  let covered := (List.finRange 8).filter fun (k : ScreenId) => r.covered.getLsbD k
  let screens := covered.filter fun k => s.applicable caller k
  let placed := (r.entries.filter fun f => screens.contains f.screen).length
  if covered = [] then .error .sceneEmpty
  else if screens = [] then .error .refused
  else if s.freeCount < placed then .error .noHandles
  else
    .ok
      { complete := screens = covered
        screens := screens.foldl (fun b k => b ||| BitVec.twoPow 8 k) 0#8
        placed := placed
        marked := (screens.map fun k => (s.marked caller k).length).sum
        after := screens.foldl (fun t k => t.recallScreen caller r.entries k) s }

/-- RECALL SCENE (R156 to R158, 11.5). -/
def recallScene (args : List Byte) (s : State) : Answer :=
  match ident 16 (arg args 0) with
  | none => refuse .badArgument s
  | some n =>
    match s.recall .link n with
    | .error code => refuse code s
    | .ok r =>
      reply [KeyOutcome.code (if r.complete then .done else .partly), r.screens, byte r.placed, byte r.marked] r.after

/-! ### Keys -/

/-- The action a BIND KEY carries; none for a code or a number that names nothing (R165 tests 3 and 4). -/
def actionOf (code number : Byte) : Option Action :=
  if code = 0x00#8 then some .none
  else if code = 0x01#8 then (ident 16 number).map .recall
  else if code = 0x02#8 then (ident 16 number).map .step
  else if code = 0x03#8 then (ident 16 number).map .toggle
  else none

/-- BIND KEY (R165). -/
def bindKey (args : List Byte) (s : State) : Answer :=
  match ident 8 (arg args 0) with
  | none => refuse .badArgument s
  | some k =>
    match yesNo (arg args 1), keyModeOf (arg args 2) with
    | some enabled, some mode =>
      match actionOf (arg args 3) (arg args 4) with
      | none => refuse .badArgument s
      | some action =>
        reply [] (s.setKey k { s.keys[k] with enabled := enabled, mode := mode, action := action, outcome := .none })
    | _, _ => refuse .badArgument s

/-- Action code and scene or carousel number, 0 for NONE (11.5). -/
def Action.bytes : Action → List Byte
  | .none => [0x00#8, 0x00#8]
  | .recall n => [0x01#8, byte n]
  | .step c => [0x02#8, byte c]
  | .toggle c => [0x03#8, byte c]

/-- One key of READ KEYS (R166, 11.5). -/
def Key.response (k : Key) : List Byte :=
  [flagByte k.enabled, k.mode.code] ++ k.action.bytes ++ [k.outcome.code, flagByte k.pressed]

/-- READ KEYS (R166): keys 0 to 7 in turn. -/
def readKeys (s : State) : Answer := reply (s.keys.toList.flatMap Key.response) s

/-- Carousel c asks to be RUNNING, its pending request counted (R163). -/
def Carousel.asksRunning (c : Carousel) : Bool :=
  match c.request with
  | .start => true
  | .stop => false
  | .none => decide (c.state = .running)

/-- The outcome a key records of a carousel command (R163). -/
def outcomeOf (code : ResultCode) : KeyOutcome := if code = .ok then .done else .refusal code

/-- What a key action does as the panel, and its outcome (R163); none for the action NONE. -/
def State.performAction (s : State) (a : Action) : Option (KeyOutcome × State) :=
  match a with
  | .none => none
  | .recall n =>
    match s.recall .panel n with
    | .error code => some (.refusal code, s)
    | .ok r => some (if r.complete then .done else .partly, r.after)
  | .step c => some (outcomeOf (s.stepCarousel c).code, (s.stepCarousel c).after)
  | .toggle c =>
    let a := if s.carousels[c].asksRunning then s.stopCarousel c else s.startCarousel c
    some (outcomeOf a.code, a.after)

/-- The action of key k is performed: its outcome becomes the key's last outcome and the KEY cause is raised, but for the action NONE
(R163). -/
def State.keyAction (s : State) (k : KeyId) : State :=
  match s.performAction s.keys[k].action with
  | none => s
  | some (o, t) => (t.setKey k { t.keys[k] with outcome := o }).raise .key

/-- A press of key k (R161, R162). -/
def State.pressKey (s : State) (k : KeyId) : State :=
  let r := s.keys[k]
  let t := s.setKey k { r with pressed := true, disagreement := 0, repeatCount := 0, acted := r.enabled }
  if r.enabled then t.keyAction k else t

/-- A release of key k (R161, R162). -/
def State.releaseKey (s : State) (k : KeyId) : State :=
  s.setKey k { s.keys[k] with pressed := false, disagreement := 0, repeatCount := 0, acted := false }

/-- Samples that must differ from the debounced state to change it (R161). -/
def debounceSamples : Nat := 3

/-- The repeat count at which a repeat comes, and what it then becomes (R162). -/
def repeatAt : Nat := 50
def repeatFrom : Nat := 30

/-- The repeat count of a PRESSED key reaches 50 at this scan tick (R162). -/
def Key.reachesRepeat (r : Key) : Bool := decide (repeatAt ≤ r.repeatCount + 1)

/-- The repeat count of the PRESSED key k advances; one that reaches 50 becomes 30, and the action of an enabled REPEAT key that acted
is performed again (R162). -/
def State.repeatKey (s : State) (k : KeyId) : State :=
  let r := s.keys[k]
  if r.reachesRepeat then
    let t := s.setKey k { r with repeatCount := repeatFrom }
    if r.enabled ∧ r.mode = .repeating ∧ r.acted then t.keyAction k else t
  else s.setKey k { r with repeatCount := r.repeatCount + 1 }

/-- The sample of key k differs from its debounced state and completes the count of three (R161). -/
def Key.changesAt (r : Key) (low : Bool) : Bool := decide (r.pressed ≠ low ∧ debounceSamples ≤ r.disagreement + 1)

/-- The scan tick at key k with its sample, low while the button is held (R161, R162). -/
def State.keyTick (s : State) (k : KeyId) (low : Bool) : State :=
  let r := s.keys[k]
  if r.changesAt low then if low then s.pressKey k else s.releaseKey k
  else
    let t := s.setKey k { r with disagreement := if r.pressed = low then 0 else r.disagreement + 1 }
    if r.pressed then t.repeatKey k else t

end Sys2Proof.Machine
end

