-- ==== Sys2Proof/Machine/Stages.lean ====
section
/-! DEFINITION. The stage commands (chapter 2): SEAL, DISCARD, READ STAGE and CONFIGURE STAGES, and the dwell tick at a stage (R35). -/

namespace Sys2Proof.Machine

/-- SEAL STAGE (R30). -/
def sealStage (args : List Byte) (s : State) : Answer :=
  match ident 8 (arg args 0) with
  | none => refuse .badArgument s
  | some k =>
    if s.screens[k].mode = .off then refuse .screenOff s
    else
      match s.stages[k] with
      | .empty => refuse .stageEmpty s
      | .sealed _ _ => refuse .stageSealed s
      | .opened .panel _ => refuse .stageHeld s
      | .opened .link count => reply [] (s.setStage k (.sealed .link count))

/-- DISCARD STAGE (R32). -/
def discardStage (args : List Byte) (s : State) : Answer :=
  match ident 8 (arg args 0) with
  | none => refuse .badArgument s
  | some k =>
    match s.stages[k] with
    | .empty => refuse .stageEmpty s
    | .sealed _ _ => refuse .stageSealed s
    | .opened .panel _ => refuse .stageHeld s
    | .opened .link _ => reply [] (s.discardStage k)

/-- CONFIGURE STAGES (R34). -/
def configureStages (args : List Byte) (s : State) : Answer :=
  reply [] { s with expirySetting := num args 0 }

/-- The number of windows of screen k with pending changes (R38). -/
def State.pendingCount (s : State) (k : ScreenId) : Nat :=
  ((List.finRange 64).filter fun h => s.windows[h].belongsTo k && s.windows[h].hasPendingWork).length

/-- The remaining expiry (R38): only an OPEN(LINK) stage below a non-zero setting has one. -/
def Stage.remaining (g : Stage) (setting : Nat) : Nat :=
  match g with
  | .opened .link count => setting - count
  | .empty | .opened .panel _ | .sealed _ _ => 0

/-- The stage state's code and the owner's code (R189). -/
def Stage.codes : Stage → List Byte
  | .empty => [0x00#8, 0x00#8]
  | .opened owner _ => [0x01#8, owner.code]
  | .sealed owner _ => [0x02#8, owner.code]

/-- READ STAGE (R38). -/
def readStage (args : List Byte) (s : State) : Answer :=
  match ident 8 (arg args 0) with
  | none => refuse .badArgument s
  | some k =>
    reply (s.stages[k].codes ++ [byte (s.pendingCount k), byte (s.stages[k].remaining s.expirySetting)]) s

/-- The expiry count stays at 255 once it has reached 255 (R35). -/
def nextExpiryCount (count : Nat) : Nat := min (count + 1) 255

/-- A stage expires at the dwell tick that brings its count to `count`: the count has reached a setting that is not 0 (R35), and is not the
1 of a stage edited since the dwell tick before, which does not expire at this one (R16, R36). At setting 1, and only there, R35 says
otherwise; R16 and R36, which name this order of events, are followed (DEDUCED, log 23). -/
def expires (setting count : Nat) : Bool := decide (setting ≠ 0 ∧ setting ≤ count ∧ count ≠ 1)

/-- The dwell tick at the stage of screen k: the count of an OPEN(LINK) stage advances, and the stage expires when its count reaches
the setting: it is discarded and its EXPIRED cause is raised (R35). An edit taken before the tick, which leaves the count 0, keeps the stage
at it, whatever the setting (R16, R36; against R35 at setting 1, log 23). -/
def State.stageTick (s : State) (k : ScreenId) : State :=
  match s.stages[k] with
  | .opened .link count =>
    if expires s.expirySetting (nextExpiryCount count) then (s.discardStage k).raise .expired
    else s.setStage k (.opened .link (nextExpiryCount count))
  | .empty | .opened .panel _ | .sealed _ _ => s

end Sys2Proof.Machine
end

