-- ==== Sys2Proof/Machine/Port.lean ====
section
/-! DEFINITION. The control port (10.1, R168 to R173): one byte of a transaction, the command taken at its last argument byte, and the
rows of the control port. Each row shifts in its opcode byte and its argument bytes (log 8). -/

namespace Sys2Proof.Machine

/-- A command carried out by the rules of its owning chapter. -/
def runCommand (op : Opcode) (args : List Byte) (s : State) : Answer :=
  match op with
  | .identify => identify s
  | .resetLayout => resetLayout s
  | .placeWindow => placeWindow args s
  | .amendWindow => amendWindow args s
  | .retireWindow => retireWindow args s
  | .readWindow => readWindow args s
  | .listScreen => listScreen args s
  | .sealStage => sealStage args s
  | .discardStage => discardStage args s
  | .readStage => readStage args s
  | .configureStages => configureStages args s
  | .configureScreen => configureScreen args s
  | .startScreen => startScreen args s
  | .stopScreen => stopScreen args s
  | .readScreen => readScreen args s
  | .probePoint => probePoint args s
  | .probeResult => probeResult args s
  | .configureInputs => configureInputs args s
  | .readInput => readInput args s
  | .setCarousel => setCarousel args s
  | .startCarousel => startCarousel args s
  | .stopCarousel => stopCarousel args s
  | .stepCarousel => stepCarousel args s
  | .readCarousel => readCarousel args s
  | .storeScene => storeScene args s
  | .captureScene => captureScene args s
  | .clearScene => clearScene args s
  | .readScene => readScene args s
  | .recallScene => recallScene args s
  | .bindKey => bindKey args s
  | .readKeys => readKeys s
  | .readEvents => readEvents s
  | .clearEvents => clearEvents args s
  | .setEventControl => setEventControl args s

/-- A command taken: NOT_READY before any test until the part is ready (R173, R187). -/
def takeCommand (op : Opcode) (args : List Byte) (s : State) : Answer :=
  if s.startup = .ready then runCommand op args s else refuse .notReady s

/-- The port sends a result code and response fields from the next slot on; the slot of the last argument byte carried 00h (R170). -/
def State.sendResponse (s : State) (code : ResultCode) (fields : List Byte) : State :=
  { s with
    port :=
      { phase := .sending
        received := []
        response := code.code :: fields
        dataOut := s.port.dataOut ++ [0x00#8] } }

/-- One byte shifted in while the command is being received (R169, R170, R172). -/
def State.receiveByte (s : State) (b : Byte) : State :=
  match decodeBytes (s.port.received ++ [b]) with
  | .incomplete =>
    { s with port := { s.port with received := s.port.received ++ [b], dataOut := s.port.dataOut ++ [0x00#8] } }
  | .unknown => s.sendResponse .badOpcode []
  | .command op args =>
    let a := takeCommand op args s
    a.after.sendResponse a.code a.fields

/-- One byte slot of the response: the byte shifted in is disregarded, the next response byte is shifted out; filler follows the last
(R168, R170). -/
def Port.sendByte (p : Port) : Port :=
  match p.response with
  | [] => { p with phase := .filler, dataOut := p.dataOut ++ [0x00#8] }
  | [b] => { p with phase := .filler, response := [], dataOut := p.dataOut ++ [b] }
  | b :: rest => { p with response := rest, dataOut := p.dataOut ++ [b] }

/-- One byte shifted in at the control port (R168, R170): disregarded while chip select is high. -/
def State.byteIn (s : State) (b : Byte) : State :=
  match s.port.phase with
  | .noTransaction => s
  | .receiving => s.receiveByte b
  | .sending => { s with port := s.port.sendByte }
  | .filler => { s with port := { s.port with dataOut := s.port.dataOut ++ [0x00#8] } }

/-- The bytes of a row shifted in one after another. -/
def State.bytesIn (s : State) (bytes : List Byte) : State := bytes.foldl State.byteIn s

/-- A command's opcode byte and argument bytes arrive on the control port. -/
def State.commandIn (s : State) (op : Opcode) (args : List Byte) : State := s.bytesIn (op.code :: args)

/-! ### The rows of the control port -/

def execIdentify (s : State) : Host.Outcome State Fault Refusal := .next (s.commandIn .identify [])
def execResetLayout (s : State) : Host.Outcome State Fault Refusal := .next (s.commandIn .resetLayout [])
def execPlaceWindow (args : List Byte) (s : State) : Host.Outcome State Fault Refusal := .next (s.commandIn .placeWindow args)
def execAmendWindow (args : List Byte) (s : State) : Host.Outcome State Fault Refusal := .next (s.commandIn .amendWindow args)
def execRetireWindow (args : List Byte) (s : State) : Host.Outcome State Fault Refusal := .next (s.commandIn .retireWindow args)
def execReadWindow (args : List Byte) (s : State) : Host.Outcome State Fault Refusal := .next (s.commandIn .readWindow args)
def execListScreen (args : List Byte) (s : State) : Host.Outcome State Fault Refusal := .next (s.commandIn .listScreen args)
def execSealStage (args : List Byte) (s : State) : Host.Outcome State Fault Refusal := .next (s.commandIn .sealStage args)
def execDiscardStage (args : List Byte) (s : State) : Host.Outcome State Fault Refusal := .next (s.commandIn .discardStage args)
def execReadStage (args : List Byte) (s : State) : Host.Outcome State Fault Refusal := .next (s.commandIn .readStage args)
def execConfigureStages (args : List Byte) (s : State) : Host.Outcome State Fault Refusal := .next (s.commandIn .configureStages args)
def execConfigureScreen (args : List Byte) (s : State) : Host.Outcome State Fault Refusal := .next (s.commandIn .configureScreen args)
def execStartScreen (args : List Byte) (s : State) : Host.Outcome State Fault Refusal := .next (s.commandIn .startScreen args)
def execStopScreen (args : List Byte) (s : State) : Host.Outcome State Fault Refusal := .next (s.commandIn .stopScreen args)
def execReadScreen (args : List Byte) (s : State) : Host.Outcome State Fault Refusal := .next (s.commandIn .readScreen args)
def execProbePoint (args : List Byte) (s : State) : Host.Outcome State Fault Refusal := .next (s.commandIn .probePoint args)
def execProbeResult (args : List Byte) (s : State) : Host.Outcome State Fault Refusal := .next (s.commandIn .probeResult args)
def execConfigureInputs (args : List Byte) (s : State) : Host.Outcome State Fault Refusal := .next (s.commandIn .configureInputs args)
def execReadInput (args : List Byte) (s : State) : Host.Outcome State Fault Refusal := .next (s.commandIn .readInput args)
def execSetCarousel (args : List Byte) (s : State) : Host.Outcome State Fault Refusal := .next (s.commandIn .setCarousel args)
def execStartCarousel (args : List Byte) (s : State) : Host.Outcome State Fault Refusal := .next (s.commandIn .startCarousel args)
def execStopCarousel (args : List Byte) (s : State) : Host.Outcome State Fault Refusal := .next (s.commandIn .stopCarousel args)
def execStepCarousel (args : List Byte) (s : State) : Host.Outcome State Fault Refusal := .next (s.commandIn .stepCarousel args)
def execReadCarousel (args : List Byte) (s : State) : Host.Outcome State Fault Refusal := .next (s.commandIn .readCarousel args)
def execStoreScene (args : List Byte) (s : State) : Host.Outcome State Fault Refusal := .next (s.commandIn .storeScene args)
def execCaptureScene (args : List Byte) (s : State) : Host.Outcome State Fault Refusal := .next (s.commandIn .captureScene args)
def execClearScene (args : List Byte) (s : State) : Host.Outcome State Fault Refusal := .next (s.commandIn .clearScene args)
def execReadScene (args : List Byte) (s : State) : Host.Outcome State Fault Refusal := .next (s.commandIn .readScene args)
def execRecallScene (args : List Byte) (s : State) : Host.Outcome State Fault Refusal := .next (s.commandIn .recallScene args)
def execBindKey (args : List Byte) (s : State) : Host.Outcome State Fault Refusal := .next (s.commandIn .bindKey args)
def execReadKeys (s : State) : Host.Outcome State Fault Refusal := .next (s.commandIn .readKeys [])
def execReadEvents (s : State) : Host.Outcome State Fault Refusal := .next (s.commandIn .readEvents [])
def execClearEvents (args : List Byte) (s : State) : Host.Outcome State Fault Refusal := .next (s.commandIn .clearEvents args)
def execSetEventControl (args : List Byte) (s : State) : Host.Outcome State Fault Refusal := .next (s.commandIn .setEventControl args)

/-- BAD_OPCODE (R172): an opcode byte that names no command is answered in the slot after it, ready or not. -/
def execBadOpcode (opcode : Byte) (s : State) : Host.Outcome State Fault Refusal := .next (s.bytesIn [opcode])

/-- TRANSACTION_BEGIN (R168): chip select falls and a transaction begins from its first byte. While a transaction is in progress chip
select is low already and cannot fall (log 9). While the reset pin is still asserted the port takes transactions too, and a command of
them is answered NOT_READY or BAD_OPCODE as after its release (DESIGN CHOICE, log 24: R174 speaks of the time from the release on). -/
def execTransactionBegin (s : State) : Host.Outcome State Fault Refusal :=
  .next (if s.port.phase = .noTransaction then { s with port := ⟨.receiving, [], [], []⟩ } else s)

/-- TRANSACTION_END (R168, R171): chip select rises; bytes of a command not yet taken and response bytes not shifted out are gone. -/
def execTransactionEnd (s : State) : Host.Outcome State Fault Refusal := .next { s with port := Port.idle }

end Sys2Proof.Machine
end

