-- ==== Sys2Proof/Machine/Ticks.lean ====
section
/-! DEFINITION. Reset and start-up (R174, R175), the timebase (R132, R133), and the rows of its ticks and of what comes about at them
(R104, R161, R162, R142, R35, R89, R90, R181). -/

namespace Sys2Proof.Machine

/-! ### Reset and start-up -/

/-- PIN_RESET: every record at its value after pin reset; what waits in the queue is not part of a record (R174). -/
def execPinReset (s : State) : Host.Outcome State Fault Refusal := .next { State.reset with pending := s.pending }

/-- RESET_PIN_RELEASE (R174): the initialisation begins and the timebase counts from here (R132). -/
def execResetPinRelease (s : State) : Host.Outcome State Fault Refusal :=
  .next (if s.startup = .held then { s with startup := .initialising } else s)

/-- INITIALISATION_RESTART (R174): the initialisation starts again from the first location, and the part stays not ready. -/
def execInitialisationRestart (s : State) : Host.Outcome State Fault Refusal :=
  .next (match s.startup with
    | .held => s
    | .initialising => { s with startup := .initialising }
    | .ready => s)

/-- INITIALISATION_END (R175): the part becomes ready and the READY cause is raised. -/
def execInitialisationEnd (s : State) : Host.Outcome State Fault Refusal :=
  .next (if s.startup = .initialising then ({ s with startup := .ready } : State).raise .ready else s)

/-- FEED_FRAME_START (R100), with the pixels that the feed then delivers (R99; log 13). -/
def execFeedFrameStart (n : FeedStart) (s : State) : Host.Outcome State Fault Refusal := .next (s.feedFrameStart n.input n.pixels)

/-- FEED_FRAME_END at input i (R101, R102), with the pixels delivered before it (R99; log 13). -/
def execFeedFrameEnd (i : InputId) (f : FeedFrame) (s : State) : Host.Outcome State Fault Refusal := .next (s.feedFrameEnd i f)

/-! ### The timebase -/

/-- The length of the interval that a pattern phase names: 327 cycles for phases 2, 5, 8, 11, 14, 17, 20 and 23, otherwise 328
(R132). -/
def intervalLength (phase : Nat) : Nat := if phase % 3 = 2 then 327 else 328

/-- The reference cycles left to the scan tick that ends the current interval. -/
def Timebase.cyclesLeft (b : Timebase) : Nat := intervalLength b.phase - b.cycles

/-- The interval ends: the cycle count becomes 0 and the pattern phase advances, from 24 to 0 (R132); the scan-tick count advances, from
9 to 0 (R133). -/
def Timebase.scan (b : Timebase) : Timebase :=
  { b with phase := (b.phase + 1) % 25, cycles := 0, scanTicks := (b.scanTicks + 1) % 10 }

/-- The scan tick brings the scan-tick count to 10: a dwell tick is delivered (R133). -/
def Timebase.scanCompletes (b : Timebase) : Bool := decide (10 ≤ b.scanTicks + 1)

/-- The dwell-tick count advances, from 599 to 0 (R133). -/
def Timebase.dwell (b : Timebase) : Timebase := { b with dwellTicks := (b.dwellTicks + 1) % 600 }

/-- The dwell tick brings the dwell-tick count to 600: a minute is delivered (R133). -/
def Timebase.dwellCompletes (b : Timebase) : Bool := decide (600 ≤ b.dwellTicks + 1)

/-- A minute (R133): the idle count of every screen and the standby decision (R89, R90). -/
def State.minute (s : State) : State := (List.finRange 8).foldl State.minuteAt s

/-- A dwell tick (R133): hold counts (R123), stages (R35), carousels (R141, R142), and the minute it completes. -/
def State.dwellTick (s : State) : State :=
  let t := { s with timebase := s.timebase.dwell }
  let u := ((List.finRange 8).foldl State.stageTick t.holdTicks).carouselTick
  if s.timebase.dwellCompletes then u.minute else u

/-- Every event of a scan tick, inputs and keys in ascending number, the dwell tick last. -/
def TickPart.all : List TickPart :=
  ((List.finRange 12).map TickPart.loss) ++ ((List.finRange 8).map TickPart.key) ++ [.dwell]

/-- The order of the events of a scan tick: those named first, each once, then the others (log 5). -/
def tickOrder (first : List TickPart) : List TickPart :=
  (first ++ TickPart.all).foldl (fun done p => if done.contains p then done else done ++ [p]) []

/-- One event of a scan tick: the tick at an input (R104), the sample of a key, low when its line's bit is clear (R161, R162), or the
dwell tick where the scan tick completes one (R133). -/
def State.tickPart (lines : Byte) (dwellDue : Bool) (s : State) (p : TickPart) : State :=
  match p with
  | .loss i => s.lossTick i
  | .key k => s.keyTick k (!lines.getLsbD k)
  | .dwell => if dwellDue then s.dwellTick else s

/-- A scan tick: the cycles left of the interval pass, the tick is delivered (R132; log 3), and its events come about (R133), with the
key-line pins at these levels (log 22). The events of one tick are one row here: no event of another agent, a command or a frame start,
is taken between two of them (DESIGN CHOICE; R164 does not say whether one can be; log 5). -/
def State.scanTick (s : State) (first : List TickPart) (lines : Byte) : State :=
  let t := { s with timebase := s.timebase.scan, events := s.events.pass s.timebase.cyclesLeft, keyLines := lines }
  (tickOrder first).foldl (State.tickPart lines s.timebase.scanCompletes) t

/-- SCAN_TICK (R132): the timebase delivers no tick while the reset pin is asserted. -/
def execScanTick (first : List TickPart) (lines : Byte) (s : State) : Host.Outcome State Fault Refusal :=
  .next (if s.startup = .held then s else s.scanTick first lines)

/-- One cycle of the reference clock, at the timebase (R132) and at the attention pulse (R181). The cycle that ends the interval delivers
the scan tick, which finds the key lines as the last one did (log 22). -/
def State.cycle (s : State) : State :=
  if s.timebase.cycles + 1 < intervalLength s.timebase.phase then
    { s with timebase := { s.timebase with cycles := s.timebase.cycles + 1 }, events := s.events.pass 1 }
  else s.scanTick [] s.keyLines

/-- What the part does while nothing waits: one reference cycle (log 2). The timebase does not count while the reset pin is asserted
(R132). -/
def State.idle (s : State) : State := if s.startup = .held then s else s.cycle

/-- Reference cycles pass until no pulse is driven, `fuel` of them at most: a scan tick among them may restart the pulse (R181). -/
def State.runPulse : Nat → State → State
  | 0, s => s
  | fuel + 1, s => if s.events.pulseLeft = 0 then s else State.runPulse fuel s.cycle

/-- PULSE_END (R181): the cycles left of the pulse pass, one by one, and the line is released (log 3). A tick that restarts the pulse does
so once: the next is an interval away. -/
def execPulseEnd (s : State) : Host.Outcome State Fault Refusal :=
  .next (if s.startup = .held then { s with events := s.events.pass s.events.pulseLeft }
    else s.runPulse (s.events.pulseLeft + pulseCycles))

/-- DWELL_TICK (R133). -/
def execDwellTick (s : State) : Host.Outcome State Fault Refusal := .next (if s.startup = .held then s else s.dwellTick)

/-- MINUTE (R133). -/
def execMinute (s : State) : Host.Outcome State Fault Refusal := .next (if s.startup = .held then s else s.minute)

/-! ### A tick at one record: the rows for what comes about inside a tick (log 4) -/

/-- LOSS_TIMEOUT at input i: the scan tick that brings its loss count to the loss timeout (R104). -/
def execLossTimeout (i : InputId) (s : State) : Host.Outcome State Fault Refusal :=
  .next (if s.losesInput i then s.lossTick i else s)

/-- KEY_PRESS at key k: the third consecutive low sample of a RELEASED key (R161, R162). -/
def execKeyPress (k : KeyId) (s : State) : Host.Outcome State Fault Refusal :=
  .next (if s.keys[k].changesAt true then s.pressKey k else s)

/-- KEY_RELEASE at key k: the third consecutive high sample of a PRESSED key (R161, R162). -/
def execKeyRelease (k : KeyId) (s : State) : Host.Outcome State Fault Refusal :=
  .next (if s.keys[k].changesAt false then s.releaseKey k else s)

/-- KEY_REPEAT at key k: the scan tick that brings the repeat count of a PRESSED key to 50 (R162). -/
def execKeyRepeat (k : KeyId) (s : State) : Host.Outcome State Fault Refusal :=
  .next (if s.keys[k].pressed ∧ s.keys[k].reachesRepeat then s.repeatKey k else s)

/-- CAROUSEL_ADVANCE at carousel c: the dwell tick that brings the remaining field of a RUNNING TIMER carousel to 0 (R142, R143). The
tick applies the requests of all carousels first (R141), so that a carousel made STOPPED by it does not advance, nor follow. -/
def execCarouselAdvance (c : CarouselId) (s : State) : Host.Outcome State Fault Refusal :=
  .next (if s.carousels[c].counts && s.applyRequests.timesOut c then s.applyRequests.countDown c else s)

/-- The dwell tick brings the count of the OPEN(LINK) stage of screen k to the setting (R35). -/
def State.stageExpires (s : State) (k : ScreenId) : Bool :=
  match s.stages[k] with
  | .opened .link count => expires s.expirySetting (nextExpiryCount count)
  | .empty | .opened .panel _ | .sealed _ _ => false

/-- STAGE_EXPIRY at the stage of screen k (R35). -/
def execStageExpiry (k : ScreenId) (s : State) : Host.Outcome State Fault Refusal :=
  .next (if s.stageExpires k then s.stageTick k else s)

/-- STANDBY_ENTRY at screen k: the minute that brings its idle count to its idle limit (R90). -/
def execStandbyEntry (k : ScreenId) (s : State) : Host.Outcome State Fault Refusal :=
  .next (if s.entersStandby k then s.minuteAt k else s)

end Sys2Proof.Machine
end

