-- ==== Sys2Proof/Machine/Dispatch.lean ====
section
/-! DEFINITION. One arm per row of spec/opcode_table.json: the command's effect on everything but the queue. -/

namespace Sys2Proof.Machine

def exec (i : Instr) (s : State) : Host.Outcome State Fault Refusal :=
  match i with
  | .identify => Sys2Proof.Machine.execIdentify s
  | .resetLayout => Sys2Proof.Machine.execResetLayout s
  | .placeWindow args => Sys2Proof.Machine.execPlaceWindow args s
  | .amendWindow args => Sys2Proof.Machine.execAmendWindow args s
  | .retireWindow args => Sys2Proof.Machine.execRetireWindow args s
  | .readWindow args => Sys2Proof.Machine.execReadWindow args s
  | .listScreen args => Sys2Proof.Machine.execListScreen args s
  | .sealStage args => Sys2Proof.Machine.execSealStage args s
  | .discardStage args => Sys2Proof.Machine.execDiscardStage args s
  | .readStage args => Sys2Proof.Machine.execReadStage args s
  | .configureStages args => Sys2Proof.Machine.execConfigureStages args s
  | .configureScreen args => Sys2Proof.Machine.execConfigureScreen args s
  | .startScreen args => Sys2Proof.Machine.execStartScreen args s
  | .stopScreen args => Sys2Proof.Machine.execStopScreen args s
  | .readScreen args => Sys2Proof.Machine.execReadScreen args s
  | .probePoint args => Sys2Proof.Machine.execProbePoint args s
  | .probeResult args => Sys2Proof.Machine.execProbeResult args s
  | .configureInputs args => Sys2Proof.Machine.execConfigureInputs args s
  | .readInput args => Sys2Proof.Machine.execReadInput args s
  | .setCarousel args => Sys2Proof.Machine.execSetCarousel args s
  | .startCarousel args => Sys2Proof.Machine.execStartCarousel args s
  | .stopCarousel args => Sys2Proof.Machine.execStopCarousel args s
  | .stepCarousel args => Sys2Proof.Machine.execStepCarousel args s
  | .readCarousel args => Sys2Proof.Machine.execReadCarousel args s
  | .storeScene args => Sys2Proof.Machine.execStoreScene args s
  | .captureScene args => Sys2Proof.Machine.execCaptureScene args s
  | .clearScene args => Sys2Proof.Machine.execClearScene args s
  | .readScene args => Sys2Proof.Machine.execReadScene args s
  | .recallScene args => Sys2Proof.Machine.execRecallScene args s
  | .bindKey args => Sys2Proof.Machine.execBindKey args s
  | .readKeys => Sys2Proof.Machine.execReadKeys s
  | .readEvents => Sys2Proof.Machine.execReadEvents s
  | .clearEvents args => Sys2Proof.Machine.execClearEvents args s
  | .setEventControl args => Sys2Proof.Machine.execSetEventControl args s
  | .badOpcode opcode => Sys2Proof.Machine.execBadOpcode opcode s
  | .transactionBegin => Sys2Proof.Machine.execTransactionBegin s
  | .transactionEnd => Sys2Proof.Machine.execTransactionEnd s
  | .pinReset => Sys2Proof.Machine.execPinReset s
  | .resetPinRelease => Sys2Proof.Machine.execResetPinRelease s
  | .initialisationRestart => Sys2Proof.Machine.execInitialisationRestart s
  | .initialisationEnd => Sys2Proof.Machine.execInitialisationEnd s
  | .scanTick first lines => Sys2Proof.Machine.execScanTick first lines s
  | .lossTimeout n => Sys2Proof.Machine.execLossTimeout n s
  | .keyPress k => Sys2Proof.Machine.execKeyPress k s
  | .keyRelease k => Sys2Proof.Machine.execKeyRelease k s
  | .keyRepeat k => Sys2Proof.Machine.execKeyRepeat k s
  | .dwellTick => Sys2Proof.Machine.execDwellTick s
  | .carouselAdvance c => Sys2Proof.Machine.execCarouselAdvance c s
  | .stageExpiry k => Sys2Proof.Machine.execStageExpiry k s
  | .holdEnd h => Sys2Proof.Machine.execHoldEnd h s
  | .minute => Sys2Proof.Machine.execMinute s
  | .standbyEntry k => Sys2Proof.Machine.execStandbyEntry k s
  | .frameStart k => Sys2Proof.Machine.execFrameStart k s
  | .transitionEnd h => Sys2Proof.Machine.execTransitionEnd h s
  | .feedFrameStart n => Sys2Proof.Machine.execFeedFrameStart n s
  | .feedFrameEnd n frame => Sys2Proof.Machine.execFeedFrameEnd n frame s
  | .pulseEnd => Sys2Proof.Machine.execPulseEnd s

end Sys2Proof.Machine
end

