-- ==== Sys2Proof/Safety.lean ====
section
/-! DEFINITION. What the statements speak of: a part that listens on its control port, the state that answers a command, the discard of
a stage (R33), the hold on INPUT (R184), causes raised and nothing else (R179, R181), and the laws of the records that every step keeps (R4, R26, R27, R51, R64, R76, R88, R106 to R109, R134, R151, and the ranges of the records). -/

namespace Sys2Proof.Machine

/-! ### The control port -/

/-- A transaction is in progress of which no byte has arrived (R168). -/
abbrev State.addressed (s : State) : Prop := s.port.phase = .receiving ∧ s.port.received = []

/-- The part is ready (R175) and waits for the opcode byte of a transaction. -/
abbrev State.listening (s : State) : Prop := s.startup = .ready ∧ s.addressed

/-- The port about to shift out a result code and response fields, the opcode byte and `n` argument bytes of the command having been
shifted in, each while 00h was shifted out (R170). No other part of the state is changed. -/
def State.answers (t : State) (n : Nat) (code : ResultCode) (fields : List Byte) : State :=
  { t with
    port :=
      { phase := .sending
        received := []
        response := code.code :: fields
        dataOut := t.port.dataOut ++ List.replicate (n + 1) 0x00#8 } }

/-! ### Events, and what an edit finds at a stage -/

/-- A clear of the INPUT flag is held back: sensitivity LEVEL, and an event-enabled input is ABSENT (R184). -/
def State.inputClearHeld (s : State) : Prop :=
  s.events.sensitivity = .level ∧ ∃ i : InputId, s.inputs[i].eventEnable = true ∧ s.inputs[i].presence = .absent

/-- Between two states of the event unit causes were raised and nothing else: no flag is cleared, the settings are kept (R179), and the
pulse has its full length where a clear enabled flag was set in line mode PULSE, and is as it was everywhere else (R181). -/
def EventUnit.onlyRaised (old new : EventUnit) : Prop :=
  let starts := old.lineMode = .pulse ∧ ∃ f : Flag, old.isSet f = false ∧ old.isEnabled f = true ∧ new.isSet f = true
  (∀ f : Flag, old.isSet f = true → new.isSet f = true) ∧
  new.mask = old.mask ∧ new.lineMode = old.lineMode ∧ new.clearMode = old.clearMode ∧ new.sensitivity = old.sensitivity ∧
  (starts → new.pulseLeft = pulseCycles) ∧ (¬ starts → new.pulseLeft = old.pulseLeft)

/-- An edit by the venue controller passes the stage: it is EMPTY, or OPEN(LINK) (R15). -/
def Stage.openToLink (g : Stage) : Prop := g = .empty ∨ ∃ count : Nat, g = .opened .link count

def Stage.isSealed (g : Stage) : Prop := ∃ (owner : Party) (count : Nat), g = .sealed owner count

/-- The table `ws` is that of `s` after the stage of screen k was discarded (R33). -/
def State.discardedTable (s : State) (k : ScreenId) (ws : Vector Window 64) : Prop :=
  ∀ h : Handle,
    (s.windows[h].screen ≠ some k → ws[h] = s.windows[h]) ∧
    (s.windows[h].screen = some k →
      (∀ p, s.windows[h] = .staged p → ws[h] = .free) ∧
      (∀ c w v x, s.windows[h] = .live c w v x → ws[h] = .live c .none v x) ∧
      ∀ c v o, s.windows[h] = .retiring c v o → ws[h] = .retiring c v o)

/-- A shown window of screen k stands in the table. -/
def State.showsOn (s : State) (k : ScreenId) : Prop := ∃ h : Handle, s.windows[h].isShown = true ∧ s.windows[h].screen = some k

/-- A stacking key before another: the layer first, then the handle (R5). -/
def stacksBelow (g : Fin 16 × Handle) (h : Fin 16 × Handle) : Prop := g.1 < h.1 ∨ g.1 = h.1 ∧ g.2 < h.2

/-! ### Windows and stages -/

/-- A pending copy of a LIVE window names the screen of the live copy: the screen of a window is fixed (R4). -/
def Window.keepsScreen : Window → Bool
  | .live c (.amended p) _ _ => p.screen = c.screen
  | .free | .staged _ | .live _ .none _ _ | .live _ .retire _ _ | .retiring _ _ _ => true

/-- A stage owned by PANEL is never OPEN between events (R26). -/
def Stage.panelClosed : Stage → Bool
  | .opened .panel _ => false
  | .empty | .opened .link _ | .sealed _ _ => true

/-- The law of the stages (R4, R26, R27): pending work only on a screen whose stage is OPEN or SEALED, and no OPEN(PANEL). -/
abbrev State.StageLaw (s : State) : Prop :=
  (∀ h : Handle, s.windows[h].keepsScreen = true) ∧
  (∀ k : ScreenId, s.stages[k].panelClosed = true) ∧
  ∀ (h : Handle) (k : ScreenId),
    s.windows[h].belongsTo k = true → s.windows[h].hasPendingWork = true → s.stages[k] ≠ .empty

/-! ### Transitions -/

/-- A running transition has a step 1 to N of a length N of 1 to 63, and a FADE-OUT a starting weight of 1 to 64 (R64, R76). -/
def Window.lawfulTransition : Window → Bool
  | .free | .staged _ | .live _ _ _ none => true
  | .live _ _ _ (some (.fadeIn k n)) | .live _ _ _ (some (.crossfade k n _)) => decide (1 ≤ k ∧ k ≤ n ∧ n ≤ 63)
  | .retiring _ _ f => decide (1 ≤ f.k ∧ f.k ≤ f.n ∧ f.n ≤ 63 ∧ 1 ≤ f.t0 ∧ f.t0 ≤ 64)

abbrev State.TransitionLaw (s : State) : Prop := ∀ h : Handle, s.windows[h].lawfulTransition = true

/-! ### The frame store -/

/-- The contents `new` are `old` with the pixels delivered of a frame put at their columns and rows, those of the line that no marker ended
in the row after the others; none of a column beyond 1919 or a row beyond 1079, and every other pixel as it was (R99, R108). -/
def writesPixels (f : FeedFrame) (old new : Pixels) : Prop :=
  ∀ column row : Nat,
    let delivered := ((f.lines ++ [f.trailing])[row]?.getD [])[column]?
    (∀ p, delivered = some p → column ≤ 1919 → row ≤ 1079 → pixelAt new column row = p) ∧
    (delivered = none ∨ 1919 < column ∨ 1079 < row → pixelAt new column row = pixelAt old column row)

/-- The law of an input's slots (R88, R99, R103, R106 to R109): the contents of every slot are of at most 1920 columns and 1080 rows, in
their one form; the slot being written is neither newest nor pinned; the newest and the pinned slots have the size of an accepted frame
as tag; a PRESENT input has a newest slot, and one without has had no frame that could not be stored. -/
abbrev State.slotLawAt (s : State) (i : InputId) : Prop :=
  (∀ j : SlotId, pixelsWf s.inputs[i].slots[j].contents = true) ∧
  (∀ j : SlotId, s.inputs[i].inProgress.slot = some j →
    s.inputs[i].newest ≠ some j ∧ s.pinned i j = false) ∧
  (∀ j : SlotId, s.inputs[i].newest = some j → s.inputs[i].slots[j].tag.inRange = true) ∧
  (∀ j : SlotId, s.pinned i j = true →
    s.inputs[i].slots[j].tag.inRange = true ∧ s.inputs[i].newest.isSome = true) ∧
  (s.inputs[i].presence.isPresent = true → s.inputs[i].newest.isSome = true) ∧
  (s.inputs[i].newest = none → s.inputs[i].inProgress ≠ .none → s.inputs[i].inProgress.slot.isSome = true) ∧
  (s.inputs[i].presence.isAbsent = true → s.inputs[i].inProgress = .none)

abbrev State.SlotLaw (s : State) : Prop := ∀ i : InputId, s.slotLawAt i

/-! ### Screens and their plans -/

/-- The slot a picture draws is pinned by screen k (R51). -/
def State.pictureHeld (s : State) (k : ScreenId) : Picture → Bool
  | .plain _ => true
  | .slot q => s.pins k q.input q.slot

/-- The pictures of an entry of a plan of screen k are plain or drawn from slots that the screen pins (R51, R58). -/
def State.entryHeld (s : State) (k : ScreenId) (w : PlanWindow) : Bool :=
  s.pictureHeld k w.picture && w.fromSide.all fun f => s.pictureHeld k f.picture

/-- Every plan draws only from slots that its screen pins (R51, R87, R88). -/
abbrev State.PlanLaw (s : State) : Prop :=
  ∀ k : ScreenId, (s.screens[k].plan.all fun p => p.windows.all (s.entryHeld k)) = true

/-- No transition runs on the window. -/
def Window.still : Window → Bool
  | .free | .staged _ | .live _ _ _ none => true
  | .live _ _ _ (some _) | .retiring _ _ _ => false

/-- The law of a screen (R77, R84, R88, R89, R91, R95): an OFF screen has no plan, no pin, no waiting probe and no transition; a screen
with a shown window has idle count 0, and so is not in STANDBY. -/
abbrev State.screenLawAt (s : State) (k : ScreenId) : Prop :=
  (s.screens[k].mode = .off →
    s.screens[k].plan = none ∧ (∀ i : InputId, s.screens[k].pins[i] = none) ∧ s.screens[k].probe.isWaiting = false ∧
      ∀ h : Handle, s.windows[h].belongsTo k = true → s.windows[h].still = true) ∧
  (s.hasShown k = true → s.screens[k].idleCount = 0 ∧ s.screens[k].mode ≠ .standby)

abbrev State.ScreenLaw (s : State) : Prop := ∀ k : ScreenId, s.screenLawAt k

/-! ### Carousels -/

/-- The law of one carousel record (R134, R135). -/
def Carousel.lawful (c : Carousel) : Bool :=
  decide (c.entries.length ≤ Config.maxCarouselEntries) &&
  (c.entries.all fun e => decide (1 ≤ e.dwell ∧ e.dwell ≤ 65535)) &&
  if c.entries = [] then decide (c.state = .stopped ∧ c.request = .none ∧ c.index = 0 ∧ c.remaining = 0)
  else decide (c.index < c.entries.length ∧ 1 ≤ c.remaining ∧ c.remaining ≤ 65535)

/-- Following the clocks from carousel k ends at a carousel whose clock is TIMER, before `fuel` carousels have been looked at. -/
def endsAtTimer (cs : Vector Carousel 16) : Nat → CarouselId → Bool
  | 0, _ => false
  | fuel + 1, k =>
    match cs[k].clock with
    | .timer => true
    | .follow m => endsAtTimer cs fuel m

/-- The law of the carousels (R134): each record is lawful, and every chain of clocks ends at a TIMER carousel after at most 15
steps. -/
abbrev State.CarouselLaw (s : State) : Prop :=
  ∀ k : CarouselId, s.carousels[k].lawful = true ∧ endsAtTimer s.carousels 16 k = true

/-- The record `new` is `old` with its pending request applied and set to none, by the rows of R141. -/
def Carousel.servesRequest (old new : Carousel) : Prop :=
  (old.request = .none ∨ (old.state = .running ∧ old.request = .start) ∨ (old.state = .stopped ∧ old.request = .stop) →
    new = { old with request := .none }) ∧
  (old.state = .stopped → old.request = .start → new = { old with state := .running, request := .none }) ∧
  (∀ e : Entry, old.state = .ended → old.request = .start → old.entries[0]? = some e →
    new = { old with state := .running, request := .none, index := 0, remaining := e.dwell }) ∧
  (old.state ≠ .stopped → old.request = .stop → new = { old with state := .stopped, request := .none })

/-- Carousel c is RUNNING and follows a carousel that wraps (R145). -/
def followsWrap (cs : Vector Carousel 16) (wraps : CarouselId → Prop) (c : CarouselId) : Prop :=
  cs[c].state = .running ∧ ∃ k : CarouselId, cs[c].clock = .follow k ∧ wraps k

/-- The advances of one event, down every chain (R143 to R145). The carousels that `start` names advance from the records it gives; so
does, from its record in `cs`, every RUNNING follower of one that wraps, at each level of a chain; each advances once, and every other
carousel keeps its record in `cs`. The records after the event are `ds`; `ended` says whether a carousel ended. -/
def cascadesTo (present : InputId → Bool) (start : CarouselId → Option Carousel) (cs ds : Vector Carousel 16) (ended : Prop) : Prop :=
  ∃ wraps ends : CarouselId → Prop,
    (∀ (c : CarouselId) (r : Carousel), start c = some r ∨ (start c = none ∧ followsWrap cs wraps c ∧ r = cs[c]) →
      ds[c] = (r.advance present).1 ∧ (wraps c ↔ (r.advance present).2 = .wrapped) ∧
        (ends c ↔ (r.advance present).2 = .ended)) ∧
    (∀ c : CarouselId, start c = none → ¬ followsWrap cs wraps c → ds[c] = cs[c] ∧ ¬ wraps c ∧ ¬ ends c) ∧
    (ended ↔ ∃ c : CarouselId, ends c)

/-! ### Scenes -/

/-- A scene has at most 16 entries, each on a covered screen (R151). -/
abbrev State.SceneLaw (s : State) : Prop :=
  ∀ n : SceneId, s.scenes[n].entries.length ≤ Config.maxSceneEntries ∧
    ∀ f ∈ s.scenes[n].entries, s.scenes[n].covered.getLsbD f.screen = true

/-! ### Counts -/

def Stage.countInRange : Stage → Bool
  | .empty => true
  | .opened _ count | .sealed _ count => decide (count ≤ 255)

/-- Every count of the part stays in its range (R25, R79, R97, R115, R132, R160, R181). -/
abbrev State.CountLaw (s : State) : Prop :=
  (∀ h : Handle, (s.windows[h].view.all fun v => decide (v.hold ≤ 65535)) = true) ∧
  (∀ k : ScreenId, s.stages[k].countInRange = true) ∧ s.expirySetting ≤ 255 ∧
  (∀ k : ScreenId, s.screens[k].idleCount ≤ 240) ∧
  (4 ≤ s.lossTimeout ∧ s.lossTimeout ≤ 25) ∧
  (∀ i : InputId, s.inputs[i].lossCount ≤ 25 ∧ (s.inputs[i].presence.isAbsent = false → s.inputs[i].lossCount ≤ 24)) ∧
  (s.timebase.phase < 25 ∧ s.timebase.cycles < intervalLength s.timebase.phase ∧
    s.timebase.scanTicks < 10 ∧ s.timebase.dwellTicks < 600) ∧
  (∀ k : KeyId, s.keys[k].disagreement ≤ 2 ∧ s.keys[k].repeatCount < 50 ∧
    (s.keys[k].acted = true → s.keys[k].pressed = true)) ∧
  s.events.pulseLeft ≤ pulseCycles

end Sys2Proof.Machine
end

