-- ==== Sys2Proof/WellFormed.lean ====
section
/-! DEFINITION. When a term of `Instr` is a whole command: a control-port row carries exactly the argument bytes its opcode and count
byte ask for (R169, R188), BAD_OPCODE an opcode byte that names no command (R172), SCAN_TICK each part at most once (log 5). -/

namespace Sys2Proof

/-- The well-formed commands and events. An event that names a record is well formed by its type. -/
def Instr.wellFormed (i : Instr) : Bool :=
  match i.portCommand, i with
  | some (op, args), _ => op.argumentCount args == some args.length
  | none, .badOpcode b => (Opcode.ofByte? b).isNone
  | none, .scanTick first _ => decide first.Nodup
  | none, _ => true

end Sys2Proof
end

