-- ==== Sys2Proof/Certificates/Slice0/Obligations.lean ====
section
/-! DEFINITION. The statements for the provers, chapter by chapter. `s.listening` is a ready part at the start of a transaction (R168,
R175); `t.answers n code fields` is state t with the port about to shift out that result code and those fields after a command of n
argument bytes (R170). A statement that ends in `… = .next t` for a t written out says the result, the completion and the frame at
once: every record that t does not name is unchanged. -/

open Sys2Proof Sys2Proof.Machine

/-! ### The machine -/

/-- The model's queue (log 1): a step takes the command or event at the front and runs it on the state with the rest of the queue. -/
def Obligations.StepTakesTheFrontOfTheQueue : Prop :=
  ∀ (s : State) (c : Instr) (rest : List Instr), s.pending = c :: rest → step s = exec c { s with pending := rest }

/-- The model's choice (log 2): a step on an empty queue is one reference cycle (R132), which is a cycle of the attention pulse too (R181);
the cycle that ends the interval delivers the scan tick, with its events in their first order and the key lines as they stand (log 22).
The timebase does not count while the reset pin is asserted. -/
def Obligations.EmptyQueueIsOneReferenceCycle : Prop :=
  ∀ s : State, s.pending = [] →
    (s.startup = .held → step s = .next s) ∧
    (s.startup ≠ .held → s.timebase.cycles + 1 < intervalLength s.timebase.phase →
      step s = .next
        { s with
          timebase := { s.timebase with cycles := s.timebase.cycles + 1 }
          events := { s.events with pulseLeft := s.events.pulseLeft - 1 } }) ∧
    (s.startup ≠ .held → intervalLength s.timebase.phase ≤ s.timebase.cycles + 1 →
      step s = exec (.scanTick [] s.keyLines) s)

/-- The part has no fault (log 21): every command and event is carried out, and none of them touches the commands that wait. -/
def Obligations.EveryCommandCompletesAndKeepsTheQueue : Prop :=
  ∀ (i : Instr) (s : State), ∃ t, exec i s = .next t ∧ t.pending = s.pending

/-- The records after pin reset: R1, R25, R79, R97, R106, R109, R132, R134, R151, R160, R174, R178, R193. -/
def Obligations.ResetLeavesTheRecordsOfTheManual : Prop :=
  State.reset.port.phase = .noTransaction ∧ State.reset.startup ≠ .ready ∧
  (∀ h : Handle, State.reset.windows[h] = .free) ∧
  (∀ k : ScreenId, State.reset.stages[k] = .empty) ∧ State.reset.expirySetting = 50 ∧
  (∀ k : ScreenId,
    State.reset.screens[k].mode = .off ∧ State.reset.screens[k].format = .fhd ∧ State.reset.screens[k].rate = .r60 ∧
    State.reset.screens[k].background = ⟨0, 0, 0⟩ ∧ State.reset.screens[k].keypadLock = false ∧
    State.reset.screens[k].idleLimit = 0 ∧ State.reset.screens[k].idleCount = 0 ∧ State.reset.screens[k].frame = 0 ∧
    (∀ i : InputId, State.reset.screens[k].pins[i] = none) ∧ State.reset.screens[k].probe = .empty ∧
    State.reset.screens[k].plan = none) ∧
  (∀ i : InputId,
    State.reset.inputs[i].presence = .absent ∧ State.reset.inputs[i].inProgress = .none ∧ State.reset.inputs[i].lossCount = 0 ∧
    State.reset.inputs[i].changed = false ∧ State.reset.inputs[i].eventEnable = false ∧ State.reset.inputs[i].newest = none ∧
    ∀ j : SlotId, State.reset.inputs[i].role j = .free ∧ State.reset.pinned i j = false) ∧
  State.reset.lossTimeout = 10 ∧
  (State.reset.timebase.phase = 0 ∧ State.reset.timebase.cycles = 0 ∧ State.reset.timebase.scanTicks = 0 ∧
    State.reset.timebase.dwellTicks = 0) ∧
  (∀ c : CarouselId,
    State.reset.carousels[c].state = .stopped ∧ State.reset.carousels[c].request = .none ∧ State.reset.carousels[c].mode = .loop ∧
    State.reset.carousels[c].skipAbsent = false ∧ State.reset.carousels[c].clock = .timer ∧ State.reset.carousels[c].entries = [] ∧
    State.reset.carousels[c].index = 0 ∧ State.reset.carousels[c].remaining = 0) ∧
  (∀ n : SceneId, State.reset.scenes[n].covered = 0x00#8 ∧ State.reset.scenes[n].entries = []) ∧
  (∀ k : KeyId,
    State.reset.keys[k].enabled = false ∧ State.reset.keys[k].mode = .press ∧ State.reset.keys[k].action = .none ∧
    State.reset.keys[k].outcome = .none ∧ State.reset.keys[k].pressed = false ∧ State.reset.keys[k].disagreement = 0 ∧
    State.reset.keys[k].repeatCount = 0 ∧ State.reset.keys[k].acted = false) ∧
  State.reset.events.flags = 0x00#8 ∧ State.reset.events.mask = 0x01#8 ∧ State.reset.events.lineMode = .level ∧
  State.reset.events.clearMode = .readClears ∧ State.reset.events.sensitivity = .edge ∧ State.reset.attention = false

/-- The laws of the records hold right after pin reset. -/
def Obligations.RecordLawsHoldAfterPinReset : Prop :=
  State.reset.StageLaw ∧ State.reset.TransitionLaw ∧ State.reset.SlotLaw ∧ State.reset.PlanLaw ∧ State.reset.ScreenLaw ∧
  State.reset.CarouselLaw ∧ State.reset.SceneLaw ∧ State.reset.CountLaw

/-! ### Laws that every step keeps -/

/-- R4, R26, R27: a window's screen is fixed, a stage of the panel is never left OPEN, and pending work stands only on a screen whose
stage is OPEN or SEALED, whatever the part is told to do. -/
def Obligations.EveryStepKeepsTheStageLaw : Prop :=
  ∀ s t : State, s.StageLaw → step s = .next t → t.StageLaw

/-- R88, R99, R106 to R109: a slot holds at most 1920 columns and 1080 rows, in their one form; the slot being written is never newest or
pinned; the newest slot and every pinned slot have the size of an accepted frame as tag; a PRESENT input has a newest slot. -/
def Obligations.EveryStepKeepsTheSlotLaw : Prop :=
  ∀ s t : State, s.SlotLaw → step s = .next t → t.SlotLaw

/-- R51, R87, R88: every picture of the plan of a screen is a plain colour or a slot that this screen pins, until the plan is replaced or
dropped. -/
def Obligations.EveryStepKeepsPlansOnPinnedSlots : Prop :=
  ∀ s t : State, s.PlanLaw → step s = .next t → t.PlanLaw

/-- R77, R84, R89, R91: an OFF screen has no plan, no pin, no waiting probe and no transition; a shown window keeps the idle count at 0
and the screen out of STANDBY. -/
def Obligations.EveryStepKeepsTheScreenLaw : Prop :=
  ∀ s t : State, s.StageLaw → s.ScreenLaw → step s = .next t → t.ScreenLaw

/-- R134: every carousel record is lawful, and every chain of FOLLOW clocks ends at a TIMER carousel after at most 15 steps. -/
def Obligations.EveryStepKeepsTheCarouselLaw : Prop :=
  ∀ s t : State, s.CarouselLaw → step s = .next t → t.CarouselLaw

/-- R64, R76, R151 and the ranges of the counts (R25, R79, R97, R115, R132, R160, R181). -/
def Obligations.EveryStepKeepsTheRecordRanges : Prop :=
  ∀ s t : State, step s = .next t →
    (s.TransitionLaw → t.TransitionLaw) ∧ (s.SceneLaw → t.SceneLaw) ∧ (s.CountLaw → t.CountLaw)

/-- R4, R19, R33, R46: nothing but a frame start of its own screen makes a plan or changes a live copy. The plan of a screen changes at
no other event, but that STOP SCREEN and pin reset drop it, and of these only the control port carries a command; a shown window keeps
its live copy until a frame start of its screen, or becomes FREE. -/
def Obligations.OnlyAFrameStartReachesThePicture : Prop :=
  ∀ (i : Instr) (s t : State), exec i s = .next t →
    (∀ k : ScreenId, t.screens[k].plan ≠ s.screens[k].plan →
      i = .frameStart k ∨ (t.screens[k].plan = none ∧ (i = .pinReset ∨ i.bytes ≠ none))) ∧
    ∀ (h : Handle) (c : WindowFields), s.windows[h].liveCopy = some c →
      t.windows[h].liveCopy = some c ∨ t.windows[h] = .free ∨ i = .frameStart c.screen

/-! ### The control port (chapters 10 and 11) -/

/-- R169, R172, R188: the bytes of every whole command, and every opcode byte that names none, are read back as the row they were sent
for, whatever bytes follow; no shorter run of those bytes is a command. -/
def Obligations.TransactionBytesDecodeToTheirRow : Prop :=
  ∀ (i : Instr) (bytes : List Byte), i.wellFormed = true → i.bytes = some bytes →
    (∀ more : List Byte, decodeTransaction (bytes ++ more) = some i) ∧
    ∀ n : Nat, n < bytes.length → decodeTransaction (bytes.take n) = none

/-- R168, R171: a transaction begins with nothing received; it ends whatever was received; the bytes of a row that arrive while chip
select is high are disregarded; a command cut short changes no record and leaves nothing behind when the transaction ends. -/
def Obligations.TransactionsBeginAndEnd : Prop :=
  ∀ s : State,
    (s.port.phase = .noTransaction → exec .transactionBegin s = .next { s with port := ⟨.receiving, [], [], []⟩ }) ∧
    exec .transactionEnd s = .next { s with port := ⟨.noTransaction, [], [], []⟩ } ∧
    (s.port.phase = .noTransaction → ∀ (i : Instr) (bytes : List Byte), i.bytes = some bytes → exec i s = .next s) ∧
    (s.addressed → ∀ (op : Opcode) (args : List Byte) (n : Nat), op.argumentCount args = some args.length → n < args.length →
      ∃ t, exec (op.instr (args.take n)) s = .next t ∧
        t = { s with
              port := ⟨.receiving, op.code :: args.take n, s.port.response, s.port.dataOut ++ List.replicate (n + 1) 0x00#8⟩ } ∧
        exec .transactionEnd t = .next { s with port := ⟨.noTransaction, [], [], []⟩ })

/-- R168, R170: while a response is being sent, the bytes shifted in are disregarded; for each of them the next byte of the result and the
response is shifted out, and 00h after the last. After the response every byte shifted in takes out 00h, and none of them begins a second
command. -/
def Obligations.ResponseIsShiftedOutByteByByte : Prop :=
  ∀ (i : Instr) (bytes : List Byte) (s : State), i.bytes = some bytes →
    (s.port.phase = .sending → s.port.response ≠ [] →
      exec i s = .next
        { s with
          port :=
            { phase := if s.port.response.length ≤ bytes.length then .filler else .sending
              received := s.port.received
              response := s.port.response.drop bytes.length
              dataOut := s.port.dataOut ++ (s.port.response ++ List.replicate bytes.length 0x00#8).take bytes.length } }) ∧
    (s.port.phase = .filler →
      exec i s = .next { s with port := { s.port with dataOut := s.port.dataOut ++ List.replicate bytes.length 0x00#8 } })

/-- R173, R187: every whole command of a known opcode taken before the part is ready is answered NOT_READY, whatever its arguments. That
the port answers so while the reset pin is still asserted too is the model's choice (log 24). -/
def Obligations.CommandsBeforeReadinessAreNotReady : Prop :=
  ∀ (op : Opcode) (args : List Byte) (s : State), s.startup ≠ .ready → s.addressed → op.argumentCount args = some args.length →
    exec (op.instr args) s = .next (s.answers args.length .notReady [])

/-- R172. -/
def Obligations.BadOpcodeIsAnsweredAtOnce : Prop :=
  ∀ (b : Byte) (s : State), s.addressed →
    ((∀ op : Opcode, op.code ≠ b) →
      exec (.badOpcode b) s = .next (s.answers 0 .badOpcode []) ∧
      ∀ more : List Byte, ∃ p : Port,
        (s.answers 0 .badOpcode []).bytesIn more = { s with port := p } ∧
        p.dataOut = s.port.dataOut ++ [0x00#8] ++ (0x04#8 :: List.replicate more.length 0x00#8).take more.length) ∧
    ∀ op : Opcode, op.argumentCount [] ≠ some 0 →
      ∃ t, exec (op.instr []) s = .next t ∧ t = { s with port := t.port } ∧ t.port.response = s.port.response ∧
        exec .transactionEnd t = .next { s with port := ⟨.noTransaction, [], [], []⟩ }

/-- R186, R192: whatever a whole command is answered, a result other than OK and PENDING leaves every record as it was and sends no field;
PENDING sends no field. -/
def Obligations.RefusedCommandsChangeNothing : Prop :=
  ∀ (op : Opcode) (args : List Byte) (s : State), s.addressed → op.argumentCount args = some args.length →
    ∃ (code : ResultCode) (fields : List Byte) (t : State),
      exec (op.instr args) s = .next (t.answers args.length code fields) ∧
      (code ≠ .ok → fields = []) ∧ (code ≠ .ok → code ≠ .pending → t = s)

/-- R176. -/
def Obligations.IdentifyReturnsTheThreeCodes : Prop :=
  ∀ s : State, s.listening → exec .identify s = .next (s.answers 0 .ok [0xC7#8, 0x04#8, 0xB8#8, 0x01#8])

/-! ### Reset, start-up and the event unit (chapter 10) -/

/-- R174, R175: the steps from pin reset to readiness. The queue is the model's own and outlives pin reset (log 1). Of the records that
pin reset leaves, two have no value in the manual: that every slot is black with tag 0 x 0 is the model's choice (log 13), and so is that
the key lines stand at FFh (log 22). That
RESET_PIN_RELEASE changes nothing unless the pin is held, and INITIALISATION_END nothing outside the initialisation, is the model's
choice (log 7); that INITIALISATION_RESTART, which begins the initialisation again, leaves the records as they are, is log 19. -/
def Obligations.StartupRunsFromResetToReady : Prop :=
  ∀ s : State,
    exec .pinReset s = .next { State.reset with pending := s.pending } ∧
    (s.startup = .held → exec .resetPinRelease s = .next { s with startup := .initialising }) ∧
    (s.startup ≠ .held → exec .resetPinRelease s = .next s) ∧
    exec .initialisationRestart s = .next s ∧
    (s.startup = .initialising →
      exec .initialisationEnd s = .next { s with startup := .ready, events := s.events.raise .ready }) ∧
    (s.startup ≠ .initialising → exec .initialisationEnd s = .next s)

/-- R23, R44, R96, R149, R177: what RESET LAYOUT clears; every other record, the plans, the pins and the events are kept. -/
def Obligations.ResetLayoutClearsTheLayout : Prop :=
  ∀ s : State, s.listening →
    ∃ (ws : Vector Window 64) (gs : Vector Stage 8) (ss : Vector Screen 8) (cs : Vector Carousel 16),
      exec .resetLayout s = .next
        (({ s with windows := ws, stages := gs, screens := ss, carousels := cs } : State).answers 0 .ok []) ∧
      (∀ h : Handle, ws[h] = .free) ∧ (∀ k : ScreenId, gs[k] = .empty) ∧
      (∀ k : ScreenId, ss[k] = { s.screens[k] with idleCount := 0, probe := .empty }) ∧
      ∀ c : CarouselId, cs[c] =
        { s.carousels[c] with
          state := .stopped, request := .none, index := 0,
          remaining := (s.carousels[c].entries.head?.map Entry.dwell).getD 0 }

/-- R180 and R181: in LEVEL the line follows the set and enabled flags; in PULSE a cause that sets a clear enabled flag asserts the line
for two reference cycles, and no other cause moves it. PULSE_END passes the cycles left of a pulse (the model's choice, log 3), at the
timebase too unless the reset pin is asserted; without a pulse it does nothing. Where they reach the end of the current interval, its
scan tick comes first and the rest of the pulse after it: stated of counts in their ranges, a cycle count inside the interval and a pulse
of two cycles at most (R132, R181; EveryStepKeepsTheRecordRanges). In every state PULSE_END completes. -/
def Obligations.AttentionLineFollowsTheFlags : Prop :=
  ∀ s : State,
    (s.events.lineMode = .level →
      (s.attention = true ↔ ∃ g : Flag, s.events.isSet g = true ∧ s.events.isEnabled g = true)) ∧
    (∀ f : Flag, s.events.lineMode = .pulse →
      (s.events.isSet f = false → s.events.isEnabled f = true →
        ((s.raise f).events.pass 1).attention = true ∧ ((s.raise f).events.pass 2).attention = false) ∧
      (s.events.isSet f = true ∨ s.events.isEnabled f = false → (s.raise f).events.pulseLeft = s.events.pulseLeft)) ∧
    (s.events.pulseLeft = 0 → exec .pulseEnd s = .next s) ∧
    (s.startup = .held → exec .pulseEnd s = .next { s with events := { s.events with pulseLeft := 0 } }) ∧
    (s.startup ≠ .held → s.events.pulseLeft ≠ 0 →
      (s.timebase.cycles + s.events.pulseLeft < intervalLength s.timebase.phase →
        exec .pulseEnd s = .next
          { s with
            timebase := { s.timebase with cycles := s.timebase.cycles + s.events.pulseLeft }
            events := { s.events with pulseLeft := 0 } }) ∧
      (s.CountLaw → intervalLength s.timebase.phase ≤ s.timebase.cycles + s.events.pulseLeft →
        ∃ u t, exec (.scanTick [] s.keyLines) s = .next u ∧ exec .pulseEnd u = .next t ∧ exec .pulseEnd s = .next t ∧
          t.events.pulseLeft = 0)) ∧
    ∃ t, exec .pulseEnd s = .next t

/-- R182, R184: READ EVENTS returns the flags as they stand and the settings, and in READ-CLEARS clears them, but for a held INPUT (that
the returned flags are those before the clear is DEDUCED, log 10). R185: SET EVENT CONTROL refuses a code that names nothing and replaces
the four settings otherwise; a change of line mode ends a pulse (R181). -/
def Obligations.EventsAreReadAndControlled : Prop :=
  ∀ s : State, s.listening →
    (∃ flags : Byte,
      exec .readEvents s = .next
        (({ s with events := { s.events with flags := flags } } : State).answers 0 .ok
          [s.events.flags, s.events.mask, s.events.lineMode.code, s.events.clearMode.code, s.events.sensitivity.code]) ∧
      (s.events.clearMode = .writeClears → flags = s.events.flags) ∧
      (s.events.clearMode = .readClears →
        (¬ s.inputClearHeld → flags = 0x00#8) ∧ (s.inputClearHeld → flags = s.events.flags &&& 0x02#8))) ∧
    ∀ mask line clear sensitivity : Byte,
      (1 < line.toNat ∨ 1 < clear.toNat ∨ 1 < sensitivity.toNat →
        exec (.setEventControl [mask, line, clear, sensitivity]) s = .next (s.answers 4 .badArgument [])) ∧
      ∀ (l : LineMode) (c : ClearMode) (n : Sensitivity), l.code = line → c.code = clear → n.code = sensitivity →
        exec (.setEventControl [mask, line, clear, sensitivity]) s = .next
          (({ s with
              events :=
                { flags := s.events.flags
                  mask := mask
                  lineMode := l
                  clearMode := c
                  sensitivity := n
                  pulseLeft := if l = s.events.lineMode then s.events.pulseLeft else 0 } } : State).answers 4 .ok [])

/-- R183: CLEAR EVENTS clears every selected flag, but for INPUT while R184 holds it, and leaves the others. -/
def Obligations.ClearEventsClearsTheSelection : Prop :=
  ∀ (selection : Byte) (s : State), s.listening →
    ∃ flags : Byte,
      exec (.clearEvents [selection]) s = .next
        (({ s with events := { s.events with flags := flags } } : State).answers 1 .ok []) ∧
      ∀ f : Flag, flags.getLsbD f.bit = true ↔
        s.events.isSet f = true ∧ (selection.getLsbD f.bit = false ∨ (f = .input ∧ s.inputClearHeld))

/-! ### The window table (chapter 1) -/

/-- R6 to R11, R14, R19, R190, R191: a window record replaces the field groups that a mask selects, clamped, after the tests of those
groups in order; the others are neither tested nor stored, and the screen is kept. -/
def Obligations.RecordsAreTestedAndClampedByGroup : Prop :=
  ∀ (mask : BitVec 16) (r : List Byte) (base : WindowFields),
    let badRectangle := mask.getLsbD 2 = true ∧
      (min (num2 r 6) 4095 < min (num2 r 2) 4095 ∨ min (num2 r 8) 4095 < min (num2 r 4) 4095)
    let badSource := mask.getLsbD 3 = true ∧
      (2 < num r 10 ∨ (num r 10 = 0 ∧ 12 ≤ num r 11) ∨ (num r 10 = 1 ∧ 16 ≤ num r 11))
    let badLoss := mask.getLsbD 8 = true ∧ (2 < num r 28 ∨ (num r 28 = 2 ∧ 12 ≤ num r 29))
    (badRectangle → editFields mask r base = .error .badGeometry) ∧
    (¬ badRectangle → badSource ∨ badLoss → editFields mask r base = .error .badArgument) ∧
    (¬ badRectangle → ¬ badSource → ¬ badLoss →
      ∃ f, editFields mask r base = .ok f ∧ f.screen = base.screen ∧
        (mask.getLsbD 1 = false → f.layer = base.layer) ∧ (mask.getLsbD 1 = true → f.layer.val = min (num r 1) 15) ∧
        (mask.getLsbD 2 = false → f.rect = base.rect) ∧
        (mask.getLsbD 2 = true →
          f.rect.x0.val = min (num2 r 2) 4095 ∧ f.rect.y0.val = min (num2 r 4) 4095 ∧
          f.rect.x1.val = min (num2 r 6) 4095 ∧ f.rect.y1.val = min (num2 r 8) 4095) ∧
        (mask.getLsbD 3 = false → f.source = base.source) ∧
        (mask.getLsbD 3 = true →
          (∀ i : InputId, num r 10 = 0 → num r 11 = i.val → f.source = .input i) ∧
          (∀ c : CarouselId, num r 10 = 1 → num r 11 = c.val → f.source = .carousel c) ∧
          (num r 10 = 2 → f.source = .slate)) ∧
        (mask.getLsbD 4 = false → f.crop = base.crop) ∧
        (mask.getLsbD 4 = true →
          f.crop.cx.val = min (num2 r 12) 4095 ∧ f.crop.cy.val = min (num2 r 14) 4095 ∧
          f.crop.cw.val = min (num2 r 16) 4095 ∧ f.crop.ch.val = min (num2 r 18) 4095) ∧
        (mask.getLsbD 5 = false → f.opacity = base.opacity) ∧ (mask.getLsbD 5 = true → f.opacity.val = min (num r 20) 64) ∧
        (mask.getLsbD 6 = false → f.borderWidth = base.borderWidth ∧ f.borderColour = base.borderColour) ∧
        (mask.getLsbD 6 = true →
          f.borderWidth.val = min (num r 21) 15 ∧ f.borderColour = ⟨arg r 22, arg r 23, arg r 24⟩) ∧
        (mask.getLsbD 7 = false → f.slateColour = base.slateColour) ∧
        (mask.getLsbD 7 = true → f.slateColour = ⟨arg r 25, arg r 26, arg r 27⟩) ∧
        (mask.getLsbD 8 = false → f.loss = base.loss) ∧
        (mask.getLsbD 8 = true →
          (num r 28 = 0 → f.loss = .hold (num2 r 30)) ∧ (num r 28 = 1 → f.loss = .slate) ∧
          ∀ i : InputId, num r 28 = 2 → num r 29 = i.val → f.loss = .substitute i) ∧
        (mask.getLsbD 9 = false → f.fade = base.fade) ∧ (mask.getLsbD 9 = true → f.fade.val = min (num r 32) 63) ∧
        (mask.getLsbD 10 = false → f.pinned = base.pinned) ∧ (mask.getLsbD 10 = true → f.pinned = (arg r 33).getLsbD 0))

/-- R8, R10, R190: a stored copy is sent in 34 bytes, and those bytes given back to PLACE WINDOW or STORE SCENE make the same copy: no
field of a record is dropped or misplaced. A stored rectangle is never inverted and a hold limit is at most 65535 (R6, R10). -/
def Obligations.SentRecordsAreReadBackWhole : Prop :=
  ∀ f : WindowFields, f.rect.x0 ≤ f.rect.x1 → f.rect.y0 ≤ f.rect.y1 → (∀ limit, f.loss = .hold limit → limit ≤ 65535) →
    f.bytes.length = 34 ∧ num f.bytes 0 = f.screen.val ∧ recordFields f.screen f.bytes = .ok f

/-- R2, R15, R17, R28: PLACE WINDOW tests the screen, the stage, the handles and the fields, in that order; one that passes makes the
lowest FREE handle STAGED, opens the stage with expiry count 0, and returns the handle. -/
def Obligations.PlaceWindowTakesTheLowestFreeHandle : Prop :=
  ∀ (args : List Byte) (s : State), s.listening → args.length = 34 →
    (8 ≤ num args 0 → exec (.placeWindow args) s = .next (s.answers 34 .badArgument [])) ∧
    ∀ k : ScreenId, num args 0 = k.val →
      (s.stages[k].isSealed → exec (.placeWindow args) s = .next (s.answers 34 .stageSealed [])) ∧
      (∀ n, s.stages[k] = .opened .panel n → exec (.placeWindow args) s = .next (s.answers 34 .stageHeld [])) ∧
      (s.stages[k].openToLink →
        ((∀ h : Handle, s.windows[h] ≠ .free) → exec (.placeWindow args) s = .next (s.answers 34 .noHandles [])) ∧
        ∀ h : Handle, s.windows[h] = .free → (∀ g : Handle, g < h → s.windows[g] ≠ .free) →
          (∀ code, recordFields k args = .error code → exec (.placeWindow args) s = .next (s.answers 34 code [])) ∧
          ∀ f, recordFields k args = .ok f →
            exec (.placeWindow args) s = .next
              (({ s with windows := s.windows.set h (.staged f), stages := s.stages.set k (.opened .link 0) } : State).answers 34
                .ok [byte h]))

/-- R15, R18, R19, R28: AMEND WINDOW tests the handle, the window's state, the stage and the selected groups, in that order; one that
passes edits the pending copy, made from the live copy where there is none, leaves the live copy alone, and opens the stage with expiry
count 0. -/
def Obligations.AmendWindowEditsThePendingCopy : Prop :=
  ∀ (args : List Byte) (s : State), s.listening → args.length = 37 →
    (64 ≤ num args 0 → exec (.amendWindow args) s = .next (s.answers 37 .badArgument [])) ∧
    ∀ h : Handle, num args 0 = h.val →
      (s.windows[h] = .free → exec (.amendWindow args) s = .next (s.answers 37 .freeHandle [])) ∧
      ((∃ c v o, s.windows[h] = .retiring c v o) ∨ (∃ c v x, s.windows[h] = .live c .retire v x) →
        exec (.amendWindow args) s = .next (s.answers 37 .retiring [])) ∧
      ∀ base, s.windows[h] = .staged base ∨ (∃ c v x, s.windows[h] = .live c (.amended base) v x) ∨
          (∃ v x, s.windows[h] = .live base .none v x) →
        (s.stages[base.screen].isSealed → exec (.amendWindow args) s = .next (s.answers 37 .stageSealed [])) ∧
        (∀ n, s.stages[base.screen] = .opened .panel n → exec (.amendWindow args) s = .next (s.answers 37 .stageHeld [])) ∧
        (s.stages[base.screen].openToLink →
          (∀ code, editFields (arg args 1 ++ arg args 2) (args.drop 3) base = .error code →
            exec (.amendWindow args) s = .next (s.answers 37 code [])) ∧
          ∀ f, editFields (arg args 1 ++ arg args 2) (args.drop 3) base = .ok f →
            ∃ w : Window,
              exec (.amendWindow args) s = .next
                (({ s with
                    windows := s.windows.set h w
                    stages := s.stages.set base.screen (.opened .link 0) } : State).answers 37 .ok []) ∧
              (s.windows[h] = .staged base → w = .staged f) ∧
              ∀ c p v x, s.windows[h] = .live c p v x → w = .live c (.amended f) v x)

/-- R15, R20, R28: RETIRE WINDOW tests the handle, the window's state and the stage, in that order; a STAGED window is FREE at once, a
LIVE one gets the retire mark and loses its pending copy, and the stage is opened with expiry count 0. -/
def Obligations.RetireWindowFreesOrMarks : Prop :=
  ∀ (b : Byte) (s : State), s.listening →
    (64 ≤ b.toNat → exec (.retireWindow [b]) s = .next (s.answers 1 .badArgument [])) ∧
    ∀ h : Handle, b.toNat = h.val →
      (s.windows[h] = .free → exec (.retireWindow [b]) s = .next (s.answers 1 .freeHandle [])) ∧
      ((∃ c v o, s.windows[h] = .retiring c v o) ∨ (∃ c v x, s.windows[h] = .live c .retire v x) →
        exec (.retireWindow [b]) s = .next (s.answers 1 .retiring [])) ∧
      ∀ base, s.windows[h] = .staged base ∨ (∃ c v x, s.windows[h] = .live c (.amended base) v x) ∨
          (∃ v x, s.windows[h] = .live base .none v x) →
        (s.stages[base.screen].isSealed → exec (.retireWindow [b]) s = .next (s.answers 1 .stageSealed [])) ∧
        (∀ n, s.stages[base.screen] = .opened .panel n → exec (.retireWindow [b]) s = .next (s.answers 1 .stageHeld [])) ∧
        (s.stages[base.screen].openToLink →
          ∃ w : Window,
            exec (.retireWindow [b]) s = .next
              (({ s with
                  windows := s.windows.set h w
                  stages := s.stages.set base.screen (.opened .link 0) } : State).answers 1 .ok []) ∧
            (s.windows[h] = .staged base → w = .free) ∧
            ∀ c p v x, s.windows[h] = .live c p v x → w = .live c .retire v x)

/-- R21, 11.5: READ WINDOW refuses a handle or a view that names nothing, and otherwise reports the record in 41 bytes, with the copy that
the view asks for, and changes nothing. -/
def Obligations.ReadWindowReportsTheRecord : Prop :=
  ∀ (b view : Byte) (s : State), s.listening →
    (64 ≤ b.toNat ∨ 1 < view.toNat → exec (.readWindow [b, view]) s = .next (s.answers 2 .badArgument [])) ∧
    ∀ h : Handle, b.toNat = h.val → view.toNat ≤ 1 →
      ∃ fields : List Byte, exec (.readWindow [b, view]) s = .next (s.answers 2 .ok fields) ∧ fields.length = 41 ∧
        (s.windows[h] = .free → fields = List.replicate 37 0x00#8 ++ [0xFF#8, 0x00#8, 0x00#8, 0x00#8]) ∧
        (∀ p, s.windows[h] = .staged p →
          fields = [0x01#8, 0x02#8] ++ copyBytes (if view = 0x01#8 then some p else none)
            ++ [0x00#8, 0xFF#8, 0x00#8, 0x00#8, 0x00#8]) ∧
        (∀ c w v x, s.windows[h] = .live c w v x →
          ∃ flags copy kind step length,
            fields = [0x02#8, flags] ++ copyBytes copy ++ [v.mode.code, orNone v.effective, kind, step, length] ∧
            (view = 0x00#8 → copy = some c) ∧
            (w = .none → flags = 0x01#8 ∧ (view = 0x01#8 → copy = none)) ∧
            (∀ p, w = .amended p → flags = 0x03#8 ∧ (view = 0x01#8 → copy = some p)) ∧
            (w = .retire → flags = 0x05#8 ∧ (view = 0x01#8 → copy = none)) ∧
            (x = none → kind = 0x00#8 ∧ step = 0x00#8 ∧ length = 0x00#8) ∧
            (∀ k n, x = some (.fadeIn k n) → kind = 0x01#8 ∧ step = byte k ∧ length = byte n) ∧
            ∀ k n source, x = some (.crossfade k n source) → kind = 0x03#8 ∧ step = byte k ∧ length = byte n) ∧
        ∀ c v o, s.windows[h] = .retiring c v o →
          fields = [0x03#8, 0x01#8] ++ copyBytes (if view = 0x00#8 then some c else none)
            ++ [v.mode.code, orNone v.effective, 0x02#8, byte o.k, byte o.n]

/-- R5, R22: LIST SCREEN returns every window of the screen that is not FREE, each once, in ascending stacking key, and changes nothing. -/
def Obligations.ListScreenIsInStackingOrder : Prop :=
  ∀ (b : Byte) (s : State), s.listening →
    (8 ≤ b.toNat → exec (.listScreen [b]) s = .next (s.answers 1 .badArgument [])) ∧
    ∀ k : ScreenId, b.toNat = k.val →
      ∃ hs : List Handle,
        exec (.listScreen [b]) s = .next (s.answers 1 .ok (byte hs.length :: hs.map fun h => byte h)) ∧
        hs.length ≤ 64 ∧ (∀ h : Handle, h ∈ hs ↔ s.windows[h].screen = some k) ∧
        hs.Pairwise fun g h =>
          ∀ m n, s.windows[g].listLayer = some m → s.windows[h].listLayer = some n → stacksBelow (m, g) (n, h)

/-! ### Stages (chapter 2) -/

/-- R30, R32, R33: what SEAL STAGE and DISCARD STAGE answer and do in each state of the stage, in the order of their tests. -/
def Obligations.SealAndDiscardFollowTheStage : Prop :=
  ∀ (b : Byte) (s : State), s.listening →
    (8 ≤ b.toNat →
      exec (.sealStage [b]) s = .next (s.answers 1 .badArgument []) ∧
      exec (.discardStage [b]) s = .next (s.answers 1 .badArgument [])) ∧
    ∀ k : ScreenId, b.toNat = k.val →
      (s.screens[k].mode = .off → exec (.sealStage [b]) s = .next (s.answers 1 .screenOff [])) ∧
      (s.screens[k].mode ≠ .off →
        (s.stages[k] = .empty → exec (.sealStage [b]) s = .next (s.answers 1 .stageEmpty [])) ∧
        (s.stages[k].isSealed → exec (.sealStage [b]) s = .next (s.answers 1 .stageSealed [])) ∧
        (∀ n, s.stages[k] = .opened .panel n → exec (.sealStage [b]) s = .next (s.answers 1 .stageHeld [])) ∧
        ∀ n, s.stages[k] = .opened .link n →
          exec (.sealStage [b]) s = .next
            (({ s with stages := s.stages.set k (.sealed .link n) } : State).answers 1 .ok [])) ∧
      (s.stages[k] = .empty → exec (.discardStage [b]) s = .next (s.answers 1 .stageEmpty [])) ∧
      (s.stages[k].isSealed → exec (.discardStage [b]) s = .next (s.answers 1 .stageSealed [])) ∧
      (∀ n, s.stages[k] = .opened .panel n → exec (.discardStage [b]) s = .next (s.answers 1 .stageHeld [])) ∧
      ∀ n, s.stages[k] = .opened .link n →
        ∃ ws : Vector Window 64,
          exec (.discardStage [b]) s = .next
            (({ s with windows := ws, stages := s.stages.set k .empty } : State).answers 1 .ok []) ∧
          s.discardedTable k ws

/-- R34, R38: CONFIGURE STAGES replaces the expiry setting alone; READ STAGE reports the state, the owner, the number of windows with
pending changes and the remaining expiry, and changes nothing. -/
def Obligations.StagesAreConfiguredAndRead : Prop :=
  ∀ (b : Byte) (s : State), s.listening →
    exec (.configureStages [b]) s = .next (({ s with expirySetting := b.toNat } : State).answers 1 .ok []) ∧
    (8 ≤ b.toNat → exec (.readStage [b]) s = .next (s.answers 1 .badArgument [])) ∧
    ∀ k : ScreenId, b.toNat = k.val →
      ∃ (state owner remaining : Byte) (hs : Finset Handle),
        exec (.readStage [b]) s = .next (s.answers 1 .ok [state, owner, byte hs.card, remaining]) ∧
        (∀ h : Handle, h ∈ hs ↔
          s.windows[h].screen = some k ∧ (s.windows[h].pendingCopy ≠ none ∨ s.windows[h].retireMark = true)) ∧
        (s.stages[k] = .empty → state = 0x00#8 ∧ owner = 0x00#8 ∧ remaining = 0x00#8) ∧
        (∀ n, s.stages[k] = .opened .link n →
          state = 0x01#8 ∧ owner = 0x01#8 ∧ remaining = byte (if n < s.expirySetting then s.expirySetting - n else 0)) ∧
        (∀ n, s.stages[k] = .opened .panel n → state = 0x01#8 ∧ owner = 0x02#8 ∧ remaining = 0x00#8) ∧
        (∀ n, s.stages[k] = .sealed .link n → state = 0x02#8 ∧ owner = 0x01#8 ∧ remaining = 0x00#8) ∧
        ∀ n, s.stages[k] = .sealed .panel n → state = 0x02#8 ∧ owner = 0x02#8 ∧ remaining = 0x00#8

/-- R33, R35, R123, R131, R133: what a dwell tick does to the stages, the windows, the screens, the timebase and the event unit. The count
of an OPEN(LINK) stage advances, up to 255; one that reaches a setting that is not 0 is discarded and raises EXPIRED. A stage edited since
the dwell tick before, at count 0, is kept (R16, R36); at setting 1 R35 has it discarded, and that R16 and R36 are followed there is the
model's choice between them (log 23). The hold count of a HOLDING window of a screen that is RUNNING or STANDBY advances, up to 65535; that it does not before the first frame start
after START SCREEN, when the screen has no plan, is the model's choice too (log 12). The dwell-tick count advances, and the tick that
brings it to 600 delivers the minute: the screens and STANDBY become what MINUTE makes of them, and at any other tick they stay. Nothing is
raised but EXPIRED, CAROUSEL and STANDBY. The row STAGE_EXPIRY is the dwell tick at one stage that expires; that it does nothing at any
other is the model's choice (log 4). -/
def Obligations.DwellTickAgesStagesAndHolds : Prop :=
  ∀ s : State, s.startup ≠ .held →
    let due := fun k : ScreenId => ∃ n, s.stages[k] = .opened .link n ∧ s.expirySetting ≠ 0 ∧
      s.expirySetting ≤ min (n + 1) 255 ∧ n ≠ 0
    (∃ t, exec .dwellTick s = .next t ∧
      (∀ k : ScreenId,
        (due k → t.stages[k] = .empty) ∧
        (¬ due k →
          (∀ n, s.stages[k] = .opened .link n → t.stages[k] = .opened .link (min (n + 1) 255)) ∧
          ((∀ n, s.stages[k] ≠ .opened .link n) → t.stages[k] = s.stages[k]))) ∧
      (∀ h : Handle,
        (s.windows[h] = .free → t.windows[h] = .free) ∧
        (∀ p, s.windows[h] = .staged p → (due p.screen → t.windows[h] = .free) ∧ (¬ due p.screen → t.windows[h] = .staged p)) ∧
        ∀ c v,
          let aged : View :=
            { v with
              hold :=
                if v.mode = .holding ∧ s.screens[c.screen].mode ≠ .off ∧ s.screens[c.screen].plan ≠ none then min (v.hold + 1) 65535
                else v.hold }
          (∀ w x, s.windows[h] = .live c w v x →
            (due c.screen → t.windows[h] = .live c .none aged x) ∧ (¬ due c.screen → t.windows[h] = .live c w aged x)) ∧
          ∀ o, s.windows[h] = .retiring c v o → t.windows[h] = .retiring c aged o) ∧
      t.timebase = { s.timebase with dwellTicks := (s.timebase.dwellTicks + 1) % 600 } ∧
      (s.timebase.dwellTicks < 599 →
        t.screens = s.screens ∧ t.events.isSet .standby = s.events.isSet .standby) ∧
      (599 ≤ s.timebase.dwellTicks →
        ∃ u, exec .minute s = .next u ∧ t.screens = u.screens ∧ t.events.isSet .standby = u.events.isSet .standby) ∧
      (t.events.isSet .expired = true ↔ s.events.isSet .expired = true ∨ ∃ k, due k) ∧
      (∀ f : Flag, f ≠ .expired → f ≠ .carousel → f ≠ .standby → t.events.isSet f = s.events.isSet f) ∧
      s.events.onlyRaised t.events ∧
      t.expirySetting = s.expirySetting ∧ t.inputs = s.inputs ∧ t.lossTimeout = s.lossTimeout ∧ t.scenes = s.scenes ∧
      t.keys = s.keys ∧ t.keyLines = s.keyLines ∧ t.port = s.port ∧ t.startup = s.startup ∧ t.pending = s.pending) ∧
    ∀ k : ScreenId,
      (due k → ∃ ws : Vector Window 64,
        exec (.stageExpiry k) s = .next
          { s with windows := ws, stages := s.stages.set k .empty, events := s.events.raise .expired } ∧ s.discardedTable k ws) ∧
      (¬ due k → exec (.stageExpiry k) s = .next s)

/-! ### The frame plan and the arithmetic (chapter 3) -/

/-- R80, R86, R87, R89, R91, R93, R129: a frame start of a screen that is RUNNING or STANDBY advances the frame number, commits a SEALED
stage, makes the plan from the table it leaves, pins exactly the slots that this plan draws from, answers a waiting probe from it,
wakes a STANDBY screen with a shown window, and raises the causes of these, which is all that happens to the event unit (R179, R181); it
touches no other screen, stage or window. An OFF screen
has no frame starts (R80); that the row FRAME_START changes nothing there is the model's choice (log 7). -/
def Obligations.FrameStartFixesTheFrame : Prop :=
  ∀ (s : State) (k : ScreenId),
    (s.screens[k].mode = .off → exec (.frameStart k) s = .next s) ∧
    (s.screens[k].mode ≠ .off →
      ∃ t : State, exec (.frameStart k) s = .next t ∧
        t = { s with windows := t.windows, stages := t.stages, screens := s.screens.set k t.screens[k], events := t.events } ∧
        (∀ h : Handle, s.windows[h].screen ≠ some k → t.windows[h] = s.windows[h]) ∧
        (∀ g : ScreenId, g ≠ k → t.stages[g] = s.stages[g]) ∧
        (s.stages[k].isSealed → t.stages[k] = .empty) ∧ (¬ s.stages[k].isSealed → t.stages[k] = s.stages[k]) ∧
        t.screens[k].frame = s.screens[k].frame + 1 ∧ t.screens[k].plan = some (t.makePlan k) ∧
        (∀ (i : InputId) (j : SlotId), t.screens[k].pins[i] = some j ↔
          ∃ w ∈ (t.makePlan k).windows, ∃ q : SlotPicture,
            (w.picture = .slot q ∨ ∃ n, w.fromSide = some ⟨n, .slot q⟩) ∧ q.input = i ∧ q.slot = j) ∧
        (∀ x y, s.screens[k].probe = .waiting x y →
          t.screens[k].probe = .answered ((t.makePlan k).probe x y t.screens[k].frame)) ∧
        (s.screens[k].probe.isWaiting = false → t.screens[k].probe = s.screens[k].probe) ∧
        (t.showsOn k → t.screens[k].mode = .running ∧ t.screens[k].idleCount = 0) ∧
        (¬ t.showsOn k → t.screens[k].mode = s.screens[k].mode ∧ t.screens[k].idleCount = s.screens[k].idleCount) ∧
        (t.screens[k].format = s.screens[k].format ∧ t.screens[k].rate = s.screens[k].rate ∧
          t.screens[k].background = s.screens[k].background ∧ t.screens[k].keypadLock = s.screens[k].keypadLock ∧
          t.screens[k].idleLimit = s.screens[k].idleLimit) ∧
        s.events.onlyRaised t.events ∧
        ∀ f : Flag, t.events.isSet f = true ↔ s.events.isSet f = true ∨
          (f = .slated ∧ ∃ h : Handle, t.windows[h].mode = some .slated ∧ s.windows[h].mode ≠ some .slated) ∨
          (f = .probe ∧ s.screens[k].probe.isWaiting = true) ∨
          (f = .standby ∧ s.screens[k].mode = .standby ∧ t.showsOn k))

/-- R45, R47, R49, R51 to R54, R58, R59: a plan lists exactly the shown windows of its screen in ascending stacking key, each with its
rectangle clipped to the raster, its effective opacity, and the pictures that its display mode and its cross-fade name, the crop
resolved and the steps computed on each picture's own slot. -/
def Obligations.PlansListTheShownWindows : Prop :=
  ∀ (s : State) (k : ScreenId),
    let p := s.makePlan k
    (s.screens[k].format = .fhd → p.width = 1920 ∧ p.height = 1080) ∧
    (s.screens[k].format = .hd → p.width = 1280 ∧ p.height = 720) ∧ p.background = s.screens[k].background ∧
    (p.windows.Pairwise fun a b => stacksBelow (a.layer, a.handle) (b.layer, b.handle)) ∧
    (∀ h : Handle, (∃ w ∈ p.windows, w.handle = h) ↔ s.windows[h].isShown = true ∧ s.windows[h].screen = some k) ∧
    ∀ w ∈ p.windows, ∃ f v, s.windows[w.handle].shown = some (f, v) ∧
      w.layer = f.layer ∧ w.rect = f.rect ∧ w.borderWidth = f.borderWidth.val ∧ w.borderColour = f.borderColour ∧ w.mode = v.mode ∧
      (p.width ≤ f.rect.x0.val ∨ p.height ≤ f.rect.y0.val → w.clip = none) ∧
      (f.rect.x0.val < p.width → f.rect.y0.val < p.height →
        w.clip = some ⟨f.rect.x0, f.rect.y0, min f.rect.x1 (p.width - 1), min f.rect.y1 (p.height - 1)⟩) ∧
      (∀ c u z a n, s.windows[w.handle] = .live c u z (some (.fadeIn a n)) → w.opacity = c.opacity * (64 * a / n) / 64) ∧
      (∀ c u z, s.windows[w.handle] = .live c u z none → w.opacity = c.opacity.val) ∧
      (∀ c u z a n i, s.windows[w.handle] = .live c u z (some (.crossfade a n i)) → w.opacity = c.opacity.val) ∧
      (∀ c z o, s.windows[w.handle] = .retiring c z o → w.opacity = c.opacity * (o.t0 * (o.n - o.k) / o.n) / 64) ∧
      let draws : Option InputId → Picture → Prop := fun input picture =>
        (input = none → picture = .plain f.slateColour) ∧
        ∀ i : InputId, input = some i →
          (s.inputs[i].newest = none → picture = .plain f.slateColour) ∧
          ∀ j : SlotId, s.inputs[i].newest = some j →
            ∃ q : SlotPicture, picture = .slot q ∧ q.input = i ∧ q.slot = j ∧
              q.sw = s.inputs[i].slots[j].tag.width ∧ q.sh = s.inputs[i].slots[j].tag.height ∧
              (f.crop.cw.val = 0 → q.cx = 0 ∧ q.cw = q.sw) ∧ (f.crop.cw.val ≠ 0 → q.cx = f.crop.cx.val ∧ q.cw = f.crop.cw.val) ∧
              (f.crop.ch.val = 0 → q.cy = 0 ∧ q.ch = q.sh) ∧ (f.crop.ch.val ≠ 0 → q.cy = f.crop.cy.val ∧ q.ch = f.crop.ch.val) ∧
              q.h = max 256 (min 32768 (q.cw * 4096 / (f.rect.x1.val - f.rect.x0.val + 1))) ∧
              q.v = max 256 (min 32768 (q.ch * 4096 / (f.rect.y1.val - f.rect.y0.val + 1)))
      (v.mode = .feed ∨ v.mode = .holding → draws v.effective w.picture) ∧
      (∀ i, v.mode = .substituted → f.loss = .substitute i → draws (some i) w.picture) ∧
      (v.mode = .slated ∨ v.mode = .colour → w.picture = .plain f.slateColour) ∧
      (∀ c u z a n i, s.windows[w.handle] = .live c u z (some (.crossfade a n i)) →
        ∃ picture, w.fromSide = some ⟨64 * a / n, picture⟩ ∧ draws i picture) ∧
      ((∀ c u z a n i, s.windows[w.handle] ≠ .live c u z (some (.crossfade a n i))) → w.fromSide = none)

/-- R54, R56, R57, R60, R61, R65, R69, R76: the blend, the cross-fade mix and the interpolation are rounded to nearest and stay between
their inputs; the sampler reads only columns and rows of the frame; every weight lies in 1 to 64; every output value of a plan lies in
0 to 255. And the value itself (R48 to R50, R52, R55 to R58, R60, R80): over the background the windows are laid in the order of the
plan, each where it covers the point, at its opacity: its border colour unmixed on the border, elsewhere its picture, mixed with the
from-side while it cross-fades; a slot is sampled at columns ca and cb of rows ra and rb. A screen that is not RUNNING, or has begun no
frame (R83), carries no value. That a RUNNING screen that has begun no frame is blank in the same way as one that is not RUNNING, with no
synchronisation, is the model's choice (log 25). -/
def Obligations.CompositionStaysInRange : Prop :=
  (∀ a p c : Nat, a ≤ 64 →
    min p c ≤ blend a p c ∧ blend a p c ≤ max p c ∧
    64 * blend a p c ≤ a * p + (64 - a) * c + 32 ∧ a * p + (64 - a) * c + 32 < 64 * blend a p c + 64) ∧
  (∀ a p c : Nat, a ≤ 64 →
    min p c ≤ crossMix a p c ∧ crossMix a p c ≤ max p c ∧
    64 * crossMix a p c ≤ a * p + (64 - a) * c + 32 ∧ a * p + (64 - a) * c + 32 < 64 * crossMix a p c + 64) ∧
  (∀ a b f : Nat, f < 4096 →
    min a b ≤ interpolate a b f ∧ interpolate a b f ≤ max a b ∧
    4096 * interpolate a b f ≤ a * (4096 - f) + b * f + 2048 ∧ a * (4096 - f) + b * f + 2048 < 4096 * interpolate a b f + 4096) ∧
  (∀ k n : Nat, 1 ≤ k → k ≤ n → n ≤ 63 → 1 ≤ weight k n ∧ weight k n ≤ 64 ∧ weight n n = 64) ∧
  (∀ (f : WindowFields) (i : InputId) (j : SlotId) (tag : Size), tag.inRange = true →
    let q := slotPicture f i j tag
    edgeLimit q.cx q.cw q.sw < tag.width ∧ edgeLimit q.cy q.ch q.sh < tag.height ∧
    256 ≤ q.h ∧ q.h ≤ 32768 ∧ 256 ≤ q.v ∧ q.v ≤ 32768) ∧
  (∀ (s : State) (k : ScreenId) (component : Component) (x y : Nat), s.TransitionLaw →
    s.planPixel (s.makePlan k) component x y ≤ 255) ∧
  (∀ (s : State) (p : Plan) (component : Component) (x y : Nat),
    (p.windows = [] → s.planPixel p component x y = p.background.component component) ∧
    ∀ (below : List PlanWindow) (w : PlanWindow), p.windows = below ++ [w] →
      let under := s.planPixel { p with windows := below } component x y
      let covered := ∃ c, w.clip = some c ∧ c.x0 ≤ x ∧ x ≤ c.x1 ∧ c.y0 ≤ y ∧ y ≤ c.y1
      let border := x - w.rect.x0.val < w.borderWidth ∨ w.rect.x1.val - x < w.borderWidth ∨
        y - w.rect.y0.val < w.borderWidth ∨ w.rect.y1.val - y < w.borderWidth
      (¬ covered → s.planPixel p component x y = under) ∧
      (covered → ∃ (value : Nat) (of : Picture → Nat),
        s.planPixel p component x y = (w.opacity * value + (64 - w.opacity) * under + 32) / 64 ∧
        (border → value = w.borderColour.component component) ∧
        (¬ border → w.fromSide = none → value = of w.picture) ∧
        (∀ f, ¬ border → w.fromSide = some f →
          value = (f.weight * of w.picture + (64 - f.weight) * of f.picture + 32) / 64) ∧
        (∀ c, of (.plain c) = c.component component) ∧
        ∀ q, of (.slot q) =
          let u := q.cx * 4096 + (x - w.rect.x0.val) * q.h
          let v := q.cy * 4096 + (y - w.rect.y0.val) * q.v
          let ca := min (u / 4096) (min (q.cx + q.cw - 1) (q.sw - 1))
          let cb := min (u / 4096 + 1) (min (q.cx + q.cw - 1) (q.sw - 1))
          let ra := min (v / 4096) (min (q.cy + q.ch - 1) (q.sh - 1))
          let rb := min (v / 4096 + 1) (min (q.cy + q.ch - 1) (q.sh - 1))
          let mix := fun a b fraction : Nat => (a * (4096 - fraction) + b * fraction + 2048) / 4096
          let stored := fun column row : Nat =>
            (pixelAt s.inputs[q.input].slots[q.slot].contents column row).component component
          mix (mix (stored ca ra) (stored cb ra) (u % 4096)) (mix (stored ca rb) (stored cb rb) (u % 4096)) (v % 4096))) ∧
  ∀ (s : State) (k : ScreenId) (component : Component) (x y : Nat),
    (s.screens[k].mode ≠ .running ∨ s.screens[k].plan = none → s.outputPixel k component x y = none) ∧
    ∀ p, s.screens[k].mode = .running → s.screens[k].plan = some p →
      s.outputPixel k component x y = some (s.planPixel p component x y)

/-! ### Commit, transitions and display modes (chapters 2, 4 and 7) -/

/-- R39 to R43, R66, R68, R116 to R118: what a frame start makes of each window of its screen, with its stage SEALED or not, and the
effective input that each takes. -/
def Obligations.FrameStartCommitsPendingWork : Prop :=
  ∀ s : State,
    (∀ i : InputId, s.designated (.input i) = some i) ∧ s.designated .slate = none ∧
    (∀ c : CarouselId, s.designated (.carousel c) = s.carousels[c].entries[s.carousels[c].index]?.map Entry.input) ∧
    ∀ k : ScreenId, s.screens[k].mode ≠ .off →
      ∃ t, exec (.frameStart k) s = .next t ∧ ∀ h : Handle, s.windows[h].screen = some k →
        (s.stages[k].isSealed →
          (∀ p, s.windows[h] = .staged p →
            ∃ v, t.windows[h] = .live p .none v (if p.fade.val = 0 then none else some (.fadeIn 1 p.fade)) ∧
              v.effective = s.designated p.source ∧ v.hold = 0) ∧
          (∀ c v x, s.windows[h] = .live c .none v x →
            ∃ v' x', t.windows[h] = .live c .none v' x' ∧ v'.effective = s.designated c.source) ∧
          (∀ c p v x, s.windows[h] = .live c (.amended p) v x →
            ∃ v' x', t.windows[h] = .live p .none v' x' ∧ v'.effective = s.designated p.source) ∧
          ∀ c v x, s.windows[h] = .live c .retire v x →
            (c.fade.val = 0 → t.windows[h] = .free) ∧
            (c.fade.val ≠ 0 →
              ∃ v' t0, t.windows[h] = .retiring c v' ⟨1, c.fade, t0⟩ ∧ v'.effective = v.effective ∧
                (∀ a n, x = some (.fadeIn a n) → a < n → t0 = 64 * a / n) ∧
                ((∀ a n, x = some (.fadeIn a n) → n ≤ a) → t0 = 64))) ∧
        (¬ s.stages[k].isSealed →
          (∀ p, s.windows[h] = .staged p → t.windows[h] = .staged p) ∧
          ∀ c w v x, s.windows[h] = .live c w v x →
            ∃ v' x', t.windows[h] = .live c w v' x' ∧ v'.effective = s.designated c.source) ∧
        ∀ c v o, s.windows[h] = .retiring c v o →
          (o.n ≤ o.k → t.windows[h] = .free) ∧
          (o.k < o.n → ∃ v', t.windows[h] = .retiring c v' ⟨o.k + 1, o.n, o.t0⟩ ∧ v'.effective = v.effective)

/-- R66, R67, R69, R70, R73 to R75, R119: the transition of a window that stays LIVE. A FADE-IN below its last step goes on whatever else
happens; a change of effective input otherwise starts a CROSSFADE from the old input, or is a cut for fade length 0; without a change a
CROSSFADE below its last step goes on, and a transition that showed its last step ends. At the first frame start after START SCREEN
there is no change (DEDUCED, log 15). -/
def Obligations.TransitionsFollowChangesOfSource : Prop :=
  ∀ (s : State) (k : ScreenId), s.screens[k].mode ≠ .off →
    ∃ t, exec (.frameStart k) s = .next t ∧
      ∀ (h : Handle) (c c' : WindowFields) (w w' : Work) (v v' : View) (x x' : Option LiveTransition),
        c.screen = k → s.windows[h] = .live c w v x → t.windows[h] = .live c' w' v' x' →
        let changed := s.screens[k].plan ≠ none ∧ v'.effective ≠ v.effective
        let fresh : Option LiveTransition := if c'.fade.val = 0 then none else some (.crossfade 1 c'.fade v.effective)
        (∀ a n, x = some (.fadeIn a n) → a < n → x' = some (.fadeIn (a + 1) n)) ∧
        (∀ a n, x = some (.fadeIn a n) → n ≤ a → (changed → x' = fresh) ∧ (¬ changed → x' = none)) ∧
        (x = none → (changed → x' = fresh) ∧ (¬ changed → x' = none)) ∧
        ∀ a n i, x = some (.crossfade a n i) →
          (changed → x' = fresh) ∧ (¬ changed → n ≤ a → x' = none) ∧
          (¬ changed → a < n → x' = some (.crossfade (a + 1) n i))

/-- R121 to R123, R125 to R127: the display mode and the hold count that a frame start gives every shown window of its screen, by the rows
of the table in their order. -/
def Obligations.DisplayModesAreDecidedInOrder : Prop :=
  ∀ (s : State) (k : ScreenId), s.screens[k].mode ≠ .off →
    ∃ t, exec (.frameStart k) s = .next t ∧
      ∀ (h : Handle) (c : WindowFields) (v : View), s.windows[h].screen = some k → t.windows[h].shown = some (c, v) →
        let same := fun m : DisplayMode => ∃ o, s.windows[h].view = some o ∧ o.mode = m ∧ o.effective = v.effective
        (c.source = .slate → v.mode = .colour) ∧
        (c.source ≠ .slate →
          (v.effective = none → v.mode = .slated) ∧
          ∀ i : InputId, v.effective = some i →
            ((∃ z, s.inputs[i].presence = .present z) → v.mode = .feed) ∧
            ((∀ z, s.inputs[i].presence ≠ .present z) →
              (c.loss = .slate → v.mode = .slated) ∧
              (∀ j : InputId, c.loss = .substitute j →
                ((∃ z, s.inputs[j].presence = .present z) → v.mode = .substituted) ∧
                ((∀ z, s.inputs[j].presence ≠ .present z) → v.mode = .slated)) ∧
              ∀ limit, c.loss = .hold limit →
                (∀ o, s.windows[h].view = some o → o.effective = v.effective → o.mode = .holding →
                  (limit = 0 ∨ o.hold < limit → v.mode = .holding) ∧ (limit ≠ 0 → limit ≤ o.hold → v.mode = .slated)) ∧
                (same .slated → v.mode = .slated) ∧
                (¬ same .holding → ¬ same .slated →
                  (s.inputs[i].newest ≠ none → v.mode = .holding) ∧ (s.inputs[i].newest = none → v.mode = .slated)))) ∧
        (s.windows[h].view = none → v.hold = 0) ∧
        ∀ o, s.windows[h].view = some o →
          (o.effective ≠ v.effective ∨ (o.mode = .holding ∧ v.mode ≠ .holding) → v.hold = 0) ∧
          (o.effective = v.effective → (o.mode = .holding → v.mode = .holding) → v.hold = o.hold)

/-- R66 to R69, R122, R124, R129: the rows TRANSITION_END and HOLD_END, the frame start at one window whose transition showed its last step,
and at one HOLDING window that this frame start makes SLATED: by the policy of the copy that its commit leaves, its count at or past the
limit, its effective input the same as before and not PRESENT. That they do nothing at any other window is the model's choice (log 4). -/
def Obligations.EndsComeAtTheirWindows : Prop :=
  ∀ (s : State) (h : Handle),
    let last := fun x : LiveTransition => ∃ a n, n ≤ a ∧ (x = .fadeIn a n ∨ ∃ i, x = .crossfade a n i)
    (∀ c w v x, s.windows[h] = .live c w v (some x) → s.screens[c.screen].mode ≠ .off → last x →
      exec (.transitionEnd h) s = .next { s with windows := s.windows.set h (.live c w v none) }) ∧
    (∀ c v o, s.windows[h] = .retiring c v o → s.screens[c.screen].mode ≠ .off → o.n ≤ o.k →
      exec (.transitionEnd h) s = .next { s with windows := s.windows.set h .free }) ∧
    ((∀ c w v x, s.windows[h] = .live c w v (some x) → s.screens[c.screen].mode ≠ .off → ¬ last x) →
      (∀ c v o, s.windows[h] = .retiring c v o → s.screens[c.screen].mode ≠ .off → o.k < o.n) →
      exec (.transitionEnd h) s = .next s) ∧
    let finished := fun (screen : ScreenId) (f : WindowFields) (v : View) (effective : Option InputId) =>
      s.screens[screen].mode ≠ .off ∧ v.mode = .holding ∧ f.source ≠ .slate ∧ v.effective = effective ∧
        ∃ limit i, f.loss = .hold limit ∧ limit ≠ 0 ∧ limit ≤ v.hold ∧ effective = some i ∧
          ∀ z, s.inputs[(i : InputId)].presence ≠ .present z
    let liveEnds := fun (c : WindowFields) (w : Work) (v : View) =>
      (s.stages[c.screen].isSealed ∧ ∃ p, w = .amended p ∧ finished c.screen p v (s.designated p.source)) ∨
      (s.stages[c.screen].isSealed ∧ w = .retire ∧ c.fade.val ≠ 0 ∧ finished c.screen c v v.effective) ∨
      ((¬ s.stages[c.screen].isSealed ∨ w = .none) ∧ finished c.screen c v (s.designated c.source))
    (∀ c w v x, s.windows[h] = .live c w v x → liveEnds c w v →
      exec (.holdEnd h) s = .next
        { s with
          windows := s.windows.set h (.live c w { v with mode := .slated, hold := 0 } x)
          events := s.events.raise .slated }) ∧
    (∀ c v o, s.windows[h] = .retiring c v o → o.k < o.n → finished c.screen c v v.effective →
      exec (.holdEnd h) s = .next
        { s with
          windows := s.windows.set h (.retiring c { v with mode := .slated, hold := 0 } o)
          events := s.events.raise .slated }) ∧
    ((∀ c w v x, s.windows[h] = .live c w v x → ¬ liveEnds c w v) →
      (∀ c v o, s.windows[h] = .retiring c v o → o.k < o.n → ¬ finished c.screen c v v.effective) →
      exec (.holdEnd h) s = .next s)

/-! ### Screens (chapter 5) -/

/-- R81, R85: CONFIGURE SCREEN tests its arguments in order and replaces the settings alone; READ SCREEN reports the record in 24 bytes
and changes nothing. -/
def Obligations.ScreensAreConfiguredAndRead : Prop :=
  ∀ (b format rate red green blue idle lock : Byte) (s : State), s.listening →
    let args := [b, format, rate, red, green, blue, idle, lock]
    (8 ≤ b.toNat ∨ 1 < format.toNat ∨ (rate ≠ 50#8 ∧ rate ≠ 60#8) ∨ 1 < lock.toNat →
      exec (.configureScreen args) s = .next (s.answers 8 .badArgument [])) ∧
    (8 ≤ b.toNat → exec (.readScreen [b]) s = .next (s.answers 1 .badArgument [])) ∧
    ∀ k : ScreenId, b.toNat = k.val →
      (∀ (f : Format) (r : Rate), f.code = format → r.code = rate → lock.toNat ≤ 1 →
        (s.screens[k].mode ≠ .off → f ≠ s.screens[k].format ∨ r ≠ s.screens[k].rate →
          exec (.configureScreen args) s = .next (s.answers 8 .screenRunning [])) ∧
        (s.screens[k].mode = .off ∨ (f = s.screens[k].format ∧ r = s.screens[k].rate) →
          ∃ limit : Fin 241, limit.val = min idle.toNat 240 ∧
            exec (.configureScreen args) s = .next
              (({ s with
                  screens := s.screens.set k
                    { s.screens[k] with
                      format := f
                      rate := r
                      background := ⟨red, green, blue⟩
                      idleLimit := limit
                      keypadLock := decide (lock = 0x01#8) } } : State).answers 8 .ok []))) ∧
      ∃ pins : List Byte,
        exec (.readScreen [b]) s = .next
          (s.answers 1 .ok
            ([s.screens[k].mode.code, s.screens[k].format.code, s.screens[k].rate.code, s.screens[k].background.r,
              s.screens[k].background.g, s.screens[k].background.b, flagByte s.screens[k].keypadLock,
              byte s.screens[k].idleLimit, byte s.screens[k].idleCount, byte (s.screens[k].frame.toNat / 256),
              byte s.screens[k].frame.toNat] ++ pins ++ [s.screens[k].probe.code])) ∧
        pins.length = 12 ∧
        ∀ i : InputId,
          (s.screens[k].pins[i] = none → pins[i.val]? = some 0xFF#8) ∧
          ∀ j : SlotId, s.screens[k].pins[i] = some j → pins[i.val]? = some (byte j)

/-- R77, R83, R84, R95: START SCREEN at an OFF screen makes it RUNNING with frame number and idle count 0; STOP SCREEN at any other makes it
OFF, drops its plan, its pins and its transitions, and answers a waiting probe; each changes nothing where the screen is so already. -/
def Obligations.ScreensStartAndStop : Prop :=
  ∀ (b : Byte) (s : State), s.listening →
    (8 ≤ b.toNat →
      exec (.startScreen [b]) s = .next (s.answers 1 .badArgument []) ∧
      exec (.stopScreen [b]) s = .next (s.answers 1 .badArgument [])) ∧
    ∀ k : ScreenId, b.toNat = k.val →
      (s.screens[k].mode = .off →
        exec (.startScreen [b]) s = .next
          (({ s with
              screens := s.screens.set k { s.screens[k] with mode := .running, frame := 0, idleCount := 0 } } : State).answers 1
            .ok []) ∧
        exec (.stopScreen [b]) s = .next (s.answers 1 .ok [])) ∧
      (s.screens[k].mode ≠ .off →
        exec (.startScreen [b]) s = .next (s.answers 1 .ok []) ∧
        ∃ (ws : Vector Window 64) (probe : ProbeSlot),
          exec (.stopScreen [b]) s = .next
            (({ s with
                windows := ws
                screens := s.screens.set k
                  { s.screens[k] with
                    mode := .off, plan := none, pins := Vector.replicate 12 none, probe := probe, idleCount := 0 }
                events := if s.screens[k].probe.isWaiting then s.events.raise .probe else s.events } : State).answers 1 .ok []) ∧
          (∀ x y, s.screens[k].probe = .waiting x y →
            probe = .answered ⟨.screenOff, none, none, none, none, s.screens[k].frame⟩) ∧
          (s.screens[k].probe.isWaiting = false → probe = s.screens[k].probe) ∧
          ∀ h : Handle,
            (s.windows[h].screen ≠ some k → ws[h] = s.windows[h]) ∧
            (s.windows[h].screen = some k →
              (∀ p, s.windows[h] = .staged p → ws[h] = .staged p) ∧
              (∀ c w v x, s.windows[h] = .live c w v x → ws[h] = .live c w v none) ∧
              ∀ c v o, s.windows[h] = .retiring c v o → ws[h] = .free))

/-- R50, R62, R92, R93: PROBE POINT tests the screen, the point, the screen's state and the probe slot in order, and leaves the slot
WAITING with result PENDING; the answer is of the covering window with the largest stacking key, its border or picture, its mode and,
for a picture point drawn from a slot, the first column and row read there. -/
def Obligations.ProbesAreAnsweredFromThePlan : Prop :=
  (∀ (b x1 x0 y1 y0 : Byte) (s : State), s.listening →
    let x := x1.toNat * 256 + x0.toNat
    let y := y1.toNat * 256 + y0.toNat
    (8 ≤ b.toNat → exec (.probePoint [b, x1, x0, y1, y0]) s = .next (s.answers 5 .badArgument [])) ∧
    ∀ k : ScreenId, b.toNat = k.val →
      (s.screens[k].format.width ≤ x ∨ s.screens[k].format.height ≤ y →
        exec (.probePoint [b, x1, x0, y1, y0]) s = .next (s.answers 5 .badArgument [])) ∧
      (x < s.screens[k].format.width → y < s.screens[k].format.height →
        (s.screens[k].mode = .off → exec (.probePoint [b, x1, x0, y1, y0]) s = .next (s.answers 5 .screenOff [])) ∧
        (s.screens[k].mode ≠ .off → s.screens[k].probe.isWaiting = true →
          exec (.probePoint [b, x1, x0, y1, y0]) s = .next (s.answers 5 .probeBusy [])) ∧
        (s.screens[k].mode ≠ .off → s.screens[k].probe.isWaiting = false →
          exec (.probePoint [b, x1, x0, y1, y0]) s = .next
            (({ s with screens := s.screens.set k { s.screens[k] with probe := .waiting x y } } : State).answers 5 .pending [])))) ∧
  ∀ (p : Plan) (x y : Nat) (frame : BitVec 16),
    ((∀ w ∈ p.windows, w.covers x y = false) → p.probe x y frame = ⟨.none, none, none, none, none, frame⟩) ∧
    ∀ (below above : List PlanWindow) (w : PlanWindow), p.windows = below ++ w :: above → w.covers x y = true →
      (∀ u ∈ above, u.covers x y = false) →
      let border := x - w.rect.x0 < w.borderWidth ∨ w.rect.x1 - x < w.borderWidth ∨
        y - w.rect.y0 < w.borderWidth ∨ w.rect.y1 - y < w.borderWidth
      ∃ position, p.probe x y frame =
          ⟨.window, some w.handle, some (if border then .border else .picture), some w.mode, position, frame⟩ ∧
        (border → position = none) ∧ (∀ c, w.picture = .plain c → position = none) ∧
        ∀ q, ¬ border → w.picture = .slot q →
          position = some
            (min ((q.cx * 4096 + (x - w.rect.x0) * q.h) / 4096) (min (q.cx + q.cw - 1) (q.sw - 1)),
             min ((q.cy * 4096 + (y - w.rect.y0) * q.v) / 4096) (min (q.cy + q.ch - 1) (q.sh - 1)))

/-- R94: what PROBE RESULT answers and does in each state of the probe slot, on a screen in any state. -/
def Obligations.ProbeResultIsReadOnce : Prop :=
  ∀ (b : Byte) (s : State), s.listening →
    (8 ≤ b.toNat → exec (.probeResult [b]) s = .next (s.answers 1 .badArgument [])) ∧
    ∀ k : ScreenId, b.toNat = k.val →
      (s.screens[k].probe = .empty → exec (.probeResult [b]) s = .next (s.answers 1 .noProbe [])) ∧
      (∀ x y, s.screens[k].probe = .waiting x y → exec (.probeResult [b]) s = .next (s.answers 1 .pending [])) ∧
      ∀ a : ProbeAnswer, s.screens[k].probe = .answered a →
        ∃ fields : List Byte,
          exec (.probeResult [b]) s = .next
            (({ s with screens := s.screens.set k { s.screens[k] with probe := .empty } } : State).answers 1 .ok fields) ∧
          fields = [a.outcome.code, orNone a.handle, (a.kind.map PointKind.code).getD 0x00#8,
              (a.mode.map DisplayMode.code).getD 0x00#8, flagByte a.position.isSome,
              byte ((a.position.getD (0, 0)).1 / 256), byte (a.position.getD (0, 0)).1,
              byte ((a.position.getD (0, 0)).2 / 256), byte (a.position.getD (0, 0)).2,
              byte (a.frame.toNat / 256), byte a.frame.toNat]

/-- R89, R90: a minute advances the idle count, up to 240, of every RUNNING screen with no shown window, and puts a RUNNING screen whose
count has reached a limit that is not 0 into STANDBY, raising the cause. The row STANDBY_ENTRY is the minute at one screen that enters
STANDBY; that it does nothing at any other is the model's choice (log 4). -/
def Obligations.MinutesLeadToStandby : Prop :=
  ∀ s : State, s.startup ≠ .held →
    let counts := fun k : ScreenId => s.screens[k].mode = .running ∧ ¬ s.showsOn k
    let enters := fun k : ScreenId => s.screens[k].mode = .running ∧ s.screens[k].idleLimit.val ≠ 0 ∧
      ((¬ s.showsOn k ∧ s.screens[k].idleLimit.val ≤ min (s.screens[k].idleCount + 1) 240) ∨
        (s.showsOn k ∧ s.screens[k].idleLimit.val ≤ s.screens[k].idleCount))
    (∃ (ss : Vector Screen 8) (e : EventUnit), exec .minute s = .next { s with screens := ss, events := e } ∧
      (∀ k : ScreenId, ∃ (mode : ScreenMode) (count : Nat),
        ss[k] = { s.screens[k] with mode := mode, idleCount := count } ∧
        (counts k → count = min (s.screens[k].idleCount + 1) 240) ∧ (¬ counts k → count = s.screens[k].idleCount) ∧
        (enters k → mode = .standby) ∧ (¬ enters k → mode = s.screens[k].mode)) ∧
      ((∃ k, enters k) → e = s.events.raise .standby) ∧ ((∀ k, ¬ enters k) → e = s.events)) ∧
    ∀ k : ScreenId,
      (enters k → ∃ count : Nat,
        exec (.standbyEntry k) s = .next
          { s with
            screens := s.screens.set k { s.screens[k] with mode := .standby, idleCount := count }
            events := s.events.raise .standby } ∧
        (counts k → count = min (s.screens[k].idleCount + 1) 240) ∧ (¬ counts k → count = s.screens[k].idleCount)) ∧
      (¬ enters k → exec (.standbyEntry k) s = .next s)

/-! ### Inputs and the frame store (chapter 6) -/

/-- R98 to R100, R105, R107, R108: a frame start of a feed discards a frame in progress, resets the loss count and gives the new frame the
lowest slot that is neither newest nor pinned, or none; an ABSENT input becomes ACQUIRING, and a discarded frame leaves the input
ACQUIRING with no candidate. Every pixel delivered after it is put into the slot at its column and row, but none of a column beyond 1919
or a row beyond 1079, and the slot's other pixels and its tag stay. Before readiness the frame start is disregarded. That the row
carries the pixels that follow the frame start is the model's choice (log 13). -/
def Obligations.FeedFrameStartGivesASlot : Prop :=
  ∀ (i : InputId) (f : FeedFrame) (s : State),
    (s.startup ≠ .ready → exec (.feedFrameStart ⟨i, f⟩) s = .next s) ∧
    (s.startup = .ready →
      let old := s.inputs[i]
      let leaves := (∃ z, old.presence = .present z) ∧ old.inProgress ≠ .none
      let writable := fun j : SlotId => old.newest ≠ some j ∧ ∀ k : ScreenId, s.screens[k].pins[i] ≠ some j
      ∃ (new : Input) (e : EventUnit),
        exec (.feedFrameStart ⟨i, f⟩) s = .next { s with inputs := s.inputs.set i new, events := e } ∧
        (old.presence = .absent ∨ old.inProgress ≠ .none → new.presence = .acquiring none) ∧
        (old.presence ≠ .absent → old.inProgress = .none → new.presence = old.presence) ∧
        new.lossCount = 0 ∧ new.eventEnable = old.eventEnable ∧ new.newest = old.newest ∧
        (leaves → new.changed = true) ∧ (¬ leaves → new.changed = old.changed) ∧
        (leaves → old.eventEnable = true → e = s.events.raise .input) ∧
        (¬ (leaves ∧ old.eventEnable = true) → e = s.events) ∧
        (∀ j, writable j → (∀ g, g < j → ¬ writable g) →
          new.inProgress = .stored j f ∧ new.slots[j].tag = old.slots[j].tag ∧
          (∀ g : SlotId, g ≠ j → new.slots[g] = old.slots[g]) ∧
          writesPixels f old.slots[j].contents new.slots[j].contents) ∧
        ((∀ j, ¬ writable j) → new.inProgress = .unstored f ∧ new.slots = old.slots))

/-- R98, R99, R101 to R103, R105, R109: a frame end judges the frame in progress by its measured size; a frame that confirms or matches the
size leaves the input PRESENT and, where it was stored, becomes the newest complete frame with its size as tag; any other frame leaves
the input ACQUIRING and its slot free, with the pixels that were written. A frame end with no frame in progress, or before readiness, is
disregarded. The frame is what its frame start and its frame end carry of it, one after the other (the model's choice, log 13). -/
def Obligations.FeedFrameEndJudgesTheFrame : Prop :=
  (∀ (f : FeedFrame) (z : Size), f.size = some z ↔
    f.trailing = [] ∧ f.lines.length = z.height ∧ (∀ line ∈ f.lines, line.length = z.width) ∧
    64 ≤ z.width ∧ z.width ≤ 1920 ∧ 64 ≤ z.height ∧ z.height ≤ 1080) ∧
  (∀ (d : FeedFrame) (p : List Colour),
    d.append ⟨[], p⟩ = ⟨d.lines, d.trailing ++ p⟩ ∧
    ∀ (line : List Colour) (rest : Pixels), d.append ⟨line :: rest, p⟩ = ⟨d.lines ++ (d.trailing ++ line) :: rest, p⟩) ∧
  ∀ (i : InputId) (f : FeedFrame) (s : State),
    (s.startup ≠ .ready ∨ s.inputs[i].inProgress = .none → exec (.feedFrameEnd i f) s = .next s) ∧
    (∀ d : FeedFrame, s.startup = .ready → s.inputs[i].inProgress.delivered = some d →
      let old := s.inputs[i]
      let size := (d.append f).size
      ∃ (new : Input) (e : EventUnit),
        exec (.feedFrameEnd i f) s = .next { s with inputs := s.inputs.set i new, events := e } ∧
        (∀ c, old.presence = .acquiring c →
          (size = none → new.presence = .acquiring none) ∧
          ∀ z, size = some z →
            (c = some z → new.presence = .present z) ∧ (c ≠ some z → new.presence = .acquiring (some z))) ∧
        (∀ c, old.presence = .present c →
          (size = none → new.presence = .acquiring none) ∧
          ∀ z, size = some z →
            (c = z → new.presence = .present z) ∧ (c ≠ z → new.presence = .acquiring (some z))) ∧
        new.inProgress = .none ∧ new.lossCount = old.lossCount ∧ new.eventEnable = old.eventEnable ∧
        (∀ j, old.inProgress.slot = some j →
          writesPixels (d.append f) old.slots[j].contents new.slots[j].contents ∧
          (∀ g : SlotId, g ≠ j → new.slots[g] = old.slots[g]) ∧
          (∀ z, new.presence = .present z → new.newest = some j ∧ new.slots[j].tag = z) ∧
          ((∀ z, new.presence ≠ .present z) → new.newest = old.newest ∧ new.slots[j].tag = old.slots[j].tag)) ∧
        (old.inProgress.slot = none → new.newest = old.newest ∧ new.slots = old.slots) ∧
        let changes := ¬ (new.presence.isPresent = old.presence.isPresent)
        (changes → new.changed = true) ∧ (¬ changes → new.changed = old.changed) ∧
        (changes → old.eventEnable = true → e = s.events.raise .input) ∧
        (¬ (changes ∧ old.eventEnable = true) → e = s.events))

/-- R104, R105, R112, R113: the row LOSS_TIMEOUT is the scan tick at one input whose loss count reaches the timeout, which makes it ABSENT
and abandons its frame in progress (that it does nothing at any other input is the model's choice, log 4); CONFIGURE INPUTS replaces the
timeout, clamped, and the twelve event enables; READ INPUT reports the record and clears the changed mark, which reads as it stood. -/
def Obligations.InputsAreLostConfiguredAndRead : Prop :=
  (∀ (i : InputId) (s : State),
    let due := s.inputs[i].presence ≠ .absent ∧ s.lossTimeout ≤ s.inputs[i].lossCount + 1
    let present := ∃ z, s.inputs[i].presence = .present z
    (¬ due → exec (.lossTimeout i) s = .next s) ∧
    (due → ∃ (changed : Bool) (e : EventUnit),
      exec (.lossTimeout i) s = .next
        { s with
          inputs := s.inputs.set i
            { s.inputs[i] with
              presence := .absent, inProgress := .none, lossCount := s.inputs[i].lossCount + 1, changed := changed }
          events := e } ∧
      (present → changed = true) ∧ (¬ present → changed = s.inputs[i].changed) ∧
      (present → s.inputs[i].eventEnable = true → e = s.events.raise .input) ∧
      (¬ (present ∧ s.inputs[i].eventEnable = true) → e = s.events))) ∧
  (∀ (timeout high low : Byte) (s : State), s.listening →
    ∃ ps : Vector Input 12,
      exec (.configureInputs [timeout, high, low]) s = .next
        (({ s with lossTimeout := max 4 (min 25 timeout.toNat), inputs := ps } : State).answers 3 .ok []) ∧
      ∀ i : InputId, ps[i] = { s.inputs[i] with eventEnable := (high ++ low).getLsbD i }) ∧
  ∀ (b : Byte) (s : State), s.listening →
    (12 ≤ b.toNat → exec (.readInput [b]) s = .next (s.answers 1 .badArgument [])) ∧
    ∀ i : InputId, b.toNat = i.val →
      ∃ sizes slots tag : List Byte,
        exec (.readInput [b]) s = .next
          (({ s with inputs := s.inputs.set i { s.inputs[i] with changed := false } } : State).answers 1 .ok
            ([s.inputs[i].presence.code] ++ sizes
              ++ [flagByte s.inputs[i].changed, flagByte s.inputs[i].eventEnable, byte s.lossTimeout, orNone s.inputs[i].newest]
              ++ tag ++ slots)) ∧
        (s.inputs[i].presence = .absent → sizes = List.replicate 8 0x00#8) ∧
        (s.inputs[i].presence = .acquiring none → sizes = List.replicate 8 0x00#8) ∧
        (∀ z, s.inputs[i].presence = .acquiring (some z) →
          sizes = List.replicate 4 0x00#8 ++ bytes2 z.width ++ bytes2 z.height) ∧
        (∀ z, s.inputs[i].presence = .present z → sizes = bytes2 z.width ++ bytes2 z.height ++ List.replicate 4 0x00#8) ∧
        (s.inputs[i].newest = none → tag = List.replicate 4 0x00#8) ∧
        (∀ j, s.inputs[i].newest = some j →
          tag = bytes2 s.inputs[i].slots[j].tag.width ++ bytes2 s.inputs[i].slots[j].tag.height) ∧
        ∃ (role pinning : SlotId → Byte),
          slots = [role 0, pinning 0, role 1, pinning 1, role 2, pinning 2] ∧
          ∀ j : SlotId,
            (s.inputs[i].newest = some j → role j = 0x02#8) ∧
            (s.inputs[i].newest ≠ some j → s.inputs[i].inProgress.slot = some j → role j = 0x01#8) ∧
            (s.inputs[i].newest ≠ some j → s.inputs[i].inProgress.slot ≠ some j → role j = 0x00#8) ∧
            ∀ k : ScreenId, (pinning j).getLsbD k = true ↔ s.screens[k].pins[i] = some j

/-! ### The timebase and the carousels (chapter 8) -/

/-- R104, R105, R132, R133, R161 to R163: a scan tick. The pattern of 25 intervals is 8192 cycles; the counts advance and wrap; every input
and every key takes the tick by its own record alone, whatever the order of the events. The whole state after it is that of its events
one after another, those named first in front: at an input LOSS_TIMEOUT where it is due, at a key KEY_PRESS, KEY_RELEASE or KEY_REPEAT
where one is due, and the DWELL_TICK that it completes. The model's choices: any order of the events can be named, and nothing comes
between two of them (log 5); SCAN_TICK passes the cycles left of the interval, at the pulse too, wherever it is taken (log 3); it sets
the key lines (log 22); it changes nothing while the reset pin is held (log 7). -/
def Obligations.ScanTickReachesEveryRecord : Prop :=
  ((List.range 25).map intervalLength).sum = 8192 ∧
  ∀ (first : List TickPart) (lines : Byte) (s : State),
    (s.startup = .held → exec (.scanTick first lines) s = .next s) ∧
    (s.startup ≠ .held →
      ∃ t, exec (.scanTick first lines) s = .next t ∧
        t.timebase.phase = (s.timebase.phase + 1) % 25 ∧ t.timebase.cycles = 0 ∧
        t.timebase.scanTicks = (s.timebase.scanTicks + 1) % 10 ∧
        (s.timebase.scanTicks < 9 → t.timebase.dwellTicks = s.timebase.dwellTicks) ∧
        (9 ≤ s.timebase.scanTicks → t.timebase.dwellTicks = (s.timebase.dwellTicks + 1) % 600) ∧
        (∀ i : InputId,
          (s.inputs[i].presence = .absent → t.inputs[i] = s.inputs[i]) ∧
          (s.inputs[i].presence ≠ .absent →
            (s.inputs[i].lossCount + 1 < s.lossTimeout →
              t.inputs[i] = { s.inputs[i] with lossCount := s.inputs[i].lossCount + 1 }) ∧
            (s.lossTimeout ≤ s.inputs[i].lossCount + 1 →
              t.inputs[i] =
                { s.inputs[i] with
                  presence := .absent
                  inProgress := .none
                  lossCount := s.inputs[i].lossCount + 1
                  changed := s.inputs[i].changed || s.inputs[i].presence.isPresent }))) ∧
        (∀ k : KeyId,
          let old := s.keys[k]
          let low := !lines.getLsbD k
          let changes := old.pressed ≠ low ∧ 2 ≤ old.disagreement
          (t.keys[k].enabled = old.enabled ∧ t.keys[k].mode = old.mode ∧ t.keys[k].action = old.action) ∧
          (changes → t.keys[k].pressed = low ∧ t.keys[k].disagreement = 0 ∧ t.keys[k].repeatCount = 0 ∧
            t.keys[k].acted = (low && old.enabled)) ∧
          (¬ changes →
            t.keys[k].pressed = old.pressed ∧ t.keys[k].acted = old.acted ∧
            (old.pressed = low → t.keys[k].disagreement = 0) ∧
            (old.pressed ≠ low → t.keys[k].disagreement = old.disagreement + 1) ∧
            (old.pressed = false → t.keys[k].repeatCount = old.repeatCount) ∧
            (old.pressed = true → old.repeatCount + 1 < 50 → t.keys[k].repeatCount = old.repeatCount + 1) ∧
            (old.pressed = true → 50 ≤ old.repeatCount + 1 → t.keys[k].repeatCount = 30))) ∧
        t.scenes = s.scenes ∧ t.port = s.port ∧ t.startup = s.startup ∧ t.lossTimeout = s.lossTimeout ∧
        t.expirySetting = s.expirySetting ∧ t.keyLines = lines ∧
        (first.Nodup → ∃ part : TickPart → State → State,
          t = (first ++ TickPart.all.filter fun p => ¬ p ∈ first).foldl (fun u p => part p u)
            { s with
              timebase := ⟨(s.timebase.phase + 1) % 25, 0, (s.timebase.scanTicks + 1) % 10, s.timebase.dwellTicks⟩
              events :=
                { s.events with
                  pulseLeft := s.events.pulseLeft - (intervalLength s.timebase.phase - s.timebase.cycles) }
              keyLines := lines } ∧
          ∀ u : State, u.startup ≠ .held →
            (∀ i : InputId,
              (u.inputs[i].presence = .absent → part (.loss i) u = u) ∧
              (u.inputs[i].presence ≠ .absent → u.inputs[i].lossCount + 1 < u.lossTimeout →
                part (.loss i) u =
                  { u with inputs := u.inputs.set i { u.inputs[i] with lossCount := u.inputs[i].lossCount + 1 } }) ∧
              (u.inputs[i].presence ≠ .absent → u.lossTimeout ≤ u.inputs[i].lossCount + 1 →
                exec (.lossTimeout i) u = .next (part (.loss i) u))) ∧
            (∀ k : KeyId,
              let old := u.keys[k]
              let low := !lines.getLsbD k
              let sampled : Key := { old with disagreement := if old.pressed = low then 0 else old.disagreement + 1 }
              (old.pressed = false → low = true → 2 ≤ old.disagreement → exec (.keyPress k) u = .next (part (.key k) u)) ∧
              (old.pressed = true → low = false → 2 ≤ old.disagreement →
                exec (.keyRelease k) u = .next (part (.key k) u)) ∧
              (old.pressed = low ∨ old.disagreement < 2 →
                (old.pressed = false → part (.key k) u = { u with keys := u.keys.set k sampled }) ∧
                (old.pressed = true → old.repeatCount + 1 < 50 →
                  part (.key k) u =
                    { u with keys := u.keys.set k { sampled with repeatCount := old.repeatCount + 1 } }) ∧
                (old.pressed = true → 50 ≤ old.repeatCount + 1 →
                  exec (.keyRepeat k) { u with keys := u.keys.set k sampled } = .next (part (.key k) u)))) ∧
            (9 ≤ s.timebase.scanTicks → exec .dwellTick u = .next (part .dwell u)) ∧
            (s.timebase.scanTicks < 9 → part .dwell u = u)))

/-- R135 to R138, R148: SET CAROUSEL tests its arguments, the carousel and the FOLLOW relation in order and replaces the record; READ
CAROUSEL reports it and changes nothing. -/
def Obligations.CarouselsAreSetAndRead : Prop :=
  (∀ (args : List Byte) (s : State), s.listening → s.CarouselLaw →
    Opcode.setCarousel.argumentCount args = some args.length →
    let bad := 16 ≤ num args 0 ∨ 1 < num args 1 ∨ 1 < num args 2 ∨ 1 < num args 3 ∨ (num args 3 = 1 ∧ 16 ≤ num args 4) ∨
      8 < num args 5 ∨ ∃ n, n < num args 5 ∧ 12 ≤ num args (6 + 3 * n)
    let follows := fun a b : CarouselId => s.carousels[a].clock = .follow b
    (bad → exec (.setCarousel args) s = .next (s.answers args.length .badArgument [])) ∧
    ∀ c : CarouselId, ¬ bad → num args 0 = c.val →
      let busy := s.carousels[c].state = .running ∨ s.carousels[c].request ≠ .none
      let loops := ∃ k : CarouselId, num args 3 = 1 ∧ num args 4 = k.val ∧ Relation.ReflTransGen follows k c
      (busy → exec (.setCarousel args) s = .next (s.answers args.length .carouselBusy [])) ∧
      (¬ busy → loops → exec (.setCarousel args) s = .next (s.answers args.length .chainLoop [])) ∧
      (¬ busy → ¬ loops →
        ∃ r : Carousel,
          exec (.setCarousel args) s = .next
            (({ s with carousels := s.carousels.set c r } : State).answers args.length .ok []) ∧
          r.state = .stopped ∧ r.request = .none ∧ r.mode.code = arg args 1 ∧ flagByte r.skipAbsent = arg args 2 ∧
          (num args 3 = 0 → r.clock = .timer) ∧ (∀ k : CarouselId, num args 3 = 1 → num args 4 = k.val → r.clock = .follow k) ∧
          r.entries.length = num args 5 ∧
          (∀ (n : Nat) (e : Entry), r.entries[n]? = some e →
            e.input.val = num args (6 + 3 * n) ∧ e.dwell = max 1 (num2 args (7 + 3 * n))) ∧
          r.index = 0 ∧ (r.entries = [] → r.remaining = 0) ∧ ∀ e, r.entries[0]? = some e → r.remaining = e.dwell)) ∧
  ∀ (b : Byte) (s : State), s.listening →
    (16 ≤ b.toNat → exec (.readCarousel [b]) s = .next (s.answers 1 .badArgument [])) ∧
    ∀ c : CarouselId, b.toNat = c.val →
      ∃ clock followed : Byte,
        exec (.readCarousel [b]) s = .next
          (s.answers 1 .ok
            ([s.carousels[c].state.code, s.carousels[c].request.code, s.carousels[c].mode.code,
              flagByte s.carousels[c].skipAbsent, clock, followed, byte s.carousels[c].entries.length]
              ++ (s.carousels[c].entries.flatMap fun e => byte e.input :: bytes2 e.dwell)
              ++ [byte s.carousels[c].index] ++ bytes2 s.carousels[c].remaining)) ∧
        (s.carousels[c].clock = .timer → clock = 0x00#8 ∧ followed = 0x00#8) ∧
        ∀ k : CarouselId, s.carousels[c].clock = .follow k → clock = 0x01#8 ∧ followed = byte k

/-- R139, R140: the request that START CAROUSEL and STOP CAROUSEL leave, by the carousel's state; nothing else changes. -/
def Obligations.StartAndStopSetTheRequest : Prop :=
  ∀ (b : Byte) (s : State), s.listening →
    (16 ≤ b.toNat →
      exec (.startCarousel [b]) s = .next (s.answers 1 .badArgument []) ∧
      exec (.stopCarousel [b]) s = .next (s.answers 1 .badArgument [])) ∧
    ∀ c : CarouselId, b.toNat = c.val →
      (s.carousels[c].entries = [] → exec (.startCarousel [b]) s = .next (s.answers 1 .carouselEmpty [])) ∧
      (s.carousels[c].entries ≠ [] →
        ∃ q : Request,
          exec (.startCarousel [b]) s = .next
            (({ s with carousels := s.carousels.set c { s.carousels[c] with request := q } } : State).answers 1 .ok []) ∧
          (s.carousels[c].state = .running → q = .none) ∧ (s.carousels[c].state ≠ .running → q = .start)) ∧
      ∃ q : Request,
        exec (.stopCarousel [b]) s = .next
          (({ s with carousels := s.carousels.set c { s.carousels[c] with request := q } } : State).answers 1 .ok []) ∧
        (s.carousels[c].state = .stopped → q = .none) ∧ (s.carousels[c].state ≠ .stopped → q = .stop)

/-- R143, R144: one advance of a carousel with entries by itself, with and without skip-absent. -/
def Obligations.AdvanceTakesTheNextEntry : Prop :=
  ∀ (c : Carousel) (present : InputId → Bool), c.index < c.entries.length →
    let n := c.entries.length
    let ready := fun m : Nat => ∃ e, c.entries[m % n]? = some e ∧ present e.input = true
    let taken := fun (m : Nat) (r : Carousel) => ∃ e, c.entries[m]? = some e ∧ r = { c with index := m, remaining := e.dwell }
    let kept := fun (state : CarouselState) (r : Carousel) =>
      ∃ e, c.entries[c.index]? = some e ∧ r = { c with state := state, remaining := e.dwell }
    let r := c.advance present
    (c.skipAbsent = false →
      (c.index + 1 < n → taken (c.index + 1) r.1 ∧ r.2 = .moved) ∧
      (c.index + 1 = n → c.mode = .loop → taken 0 r.1 ∧ r.2 = .wrapped) ∧
      (c.index + 1 = n → c.mode = .once → kept .ended r.1 ∧ r.2 = .ended)) ∧
    (c.skipAbsent = true → c.mode = .loop →
      (∀ m, c.index < m → m ≤ c.index + n → ready m → (∀ g, c.index < g → g < m → ¬ ready g) →
        taken (m % n) r.1 ∧ (m < n → r.2 = .moved) ∧ (n ≤ m → r.2 = .wrapped)) ∧
      ((∀ m, c.index < m → m ≤ c.index + n → ¬ ready m) → kept c.state r.1 ∧ r.2 = .stays)) ∧
    (c.skipAbsent = true → c.mode = .once →
      (∀ m, c.index < m → m < n → ready m → (∀ g, c.index < g → g < m → ¬ ready g) → taken m r.1 ∧ r.2 = .moved) ∧
      ((∀ m, c.index < m → m < n → ¬ ready m) → kept .ended r.1 ∧ r.2 = .ended))

/-- R141 to R146: STEP CAROUSEL advances its carousel once; a wrap advances each RUNNING follower once, and so on down the chain, every
other carousel is left as it is, and an end anywhere raises CAROUSEL. The row CAROUSEL_ADVANCE is the dwell tick, its requests applied
first, at one carousel that counts down to 0, with the same cascade; that it does nothing at any other carousel is the model's choice
(log 4). -/
def Obligations.StepsAndTimersAdvanceWithFollowers : Prop :=
  ∀ (s : State) (c : CarouselId), s.CarouselLaw →
    (s.listening → ∀ b : Byte,
      (16 ≤ b.toNat → exec (.stepCarousel [b]) s = .next (s.answers 1 .badArgument [])) ∧
      (b.toNat = c.val →
        (s.carousels[c].entries = [] → exec (.stepCarousel [b]) s = .next (s.answers 1 .carouselEmpty [])) ∧
        (s.carousels[c].state = .ended → exec (.stepCarousel [b]) s = .next (s.answers 1 .carouselEnded [])) ∧
        (s.carousels[c].entries ≠ [] → s.carousels[c].state ≠ .ended →
          ∃ (cs : Vector Carousel 16) (e : EventUnit) (ended : Prop),
            exec (.stepCarousel [b]) s = .next (({ s with carousels := cs, events := e } : State).answers 1 .ok []) ∧
            cascadesTo s.inputPresent (fun k => if k = c then some s.carousels[c] else none) s.carousels cs ended ∧
            (ended → e = s.events.raise .carousel) ∧ (¬ ended → e = s.events)))) ∧
    let due := s.carousels[c].state = .running ∧ s.carousels[c].clock = .timer ∧ s.carousels[c].request ≠ .stop ∧
      s.carousels[c].remaining = 1
    (due → ∃ (served cs : Vector Carousel 16) (e : EventUnit) (ended : Prop),
      exec (.carouselAdvance c) s = .next { s with carousels := cs, events := e } ∧
      (∀ k : CarouselId, s.carousels[k].servesRequest served[k]) ∧
      cascadesTo s.inputPresent (fun k => if k = c then some { served[c] with remaining := 0 } else none) served cs ended ∧
      (ended → e = s.events.raise .carousel) ∧ (¬ ended → e = s.events)) ∧
    (¬ due → exec (.carouselAdvance c) s = .next s)

/-- R141, R142, R145: a dwell tick applies every request first, and then counts down each TIMER carousel that was RUNNING before the tick
and still is; one whose remaining field reaches 0 advances, and every wrap advances the followers that the requests leave RUNNING, down
the chain. An end raises CAROUSEL; the tick raises it for nothing else. -/
def Obligations.DwellTickServesTheCarousels : Prop :=
  ∀ s : State, s.startup ≠ .held → s.CarouselLaw →
    ∃ t, exec .dwellTick s = .next t ∧
    (∃ (served counted : Vector Carousel 16) (start : CarouselId → Option Carousel) (ended : Prop),
      (∀ c : CarouselId,
        let counts := s.carousels[c].state = .running ∧ served[c].state = .running ∧ s.carousels[c].clock = .timer
        s.carousels[c].servesRequest served[c] ∧
        (¬ counts → counted[c] = served[c] ∧ start c = none) ∧
        (counts → 1 < served[c].remaining →
          counted[c] = { served[c] with remaining := served[c].remaining - 1 } ∧ start c = none) ∧
        (counts → served[c].remaining = 1 →
          counted[c] = served[c] ∧ start c = some { served[c] with remaining := 0 })) ∧
      cascadesTo s.inputPresent start counted t.carousels ended ∧
      (t.events.isSet .carousel = true ↔ s.events.isSet .carousel = true ∨ ended)) ∧
    ∀ c : CarouselId,
      let old := s.carousels[c]
      t.carousels[c].request = .none ∧
      (t.carousels[c].mode = old.mode ∧ t.carousels[c].skipAbsent = old.skipAbsent ∧ t.carousels[c].clock = old.clock ∧
        t.carousels[c].entries = old.entries) ∧
      (old.state ≠ .running → (old.request = .none ∨ (old.state = .stopped ∧ old.request = .stop)) →
        t.carousels[c] = { old with request := .none }) ∧
      (old.state ≠ .stopped → old.request = .stop → t.carousels[c] = { old with state := .stopped, request := .none }) ∧
      (old.clock = .timer →
        (old.state = .stopped → old.request = .start → t.carousels[c] = { old with state := .running, request := .none }) ∧
        (∀ e, old.entries[0]? = some e → old.state = .ended → old.request = .start →
          t.carousels[c] = { old with state := .running, request := .none, index := 0, remaining := e.dwell }) ∧
        (old.state = .running → old.request ≠ .stop →
          (1 < old.remaining → t.carousels[c] = { old with request := .none, remaining := old.remaining - 1 }) ∧
          (old.remaining = 1 →
            t.carousels[c] = (({ old with request := .none, remaining := 0 } : Carousel).advance s.inputPresent).1)))

/-! ### Scenes and keys (chapter 9) -/

/-- R152 to R154: STORE SCENE tests the number, the count, the screens of all entries and then their fields, and replaces the record (that
a later entry's screen is tested before an earlier entry's fields is DEDUCED, log 11); CAPTURE SCENE gathers the unmarked, unpinned LIVE
windows of the given screens in order of screen and stacking key. -/
def Obligations.ScenesAreStoredAndCaptured : Prop :=
  (∀ (args : List Byte) (s : State), s.listening → Opcode.storeScene.argumentCount args = some args.length →
    let record := fun j : Nat => (args.drop (3 + 34 * j)).take 34
    let covered := fun j : Nat => ∃ k : ScreenId, num (record j) 0 = k.val ∧ (arg args 1).getLsbD k = true
    (16 ≤ num args 0 ∨ 16 < num args 2 ∨ (∃ j, j < num args 2 ∧ ¬ covered j) →
      exec (.storeScene args) s = .next (s.answers args.length .badArgument [])) ∧
    ∀ n : SceneId, num args 0 = n.val → num args 2 ≤ 16 → (∀ j, j < num args 2 → covered j) →
      (∀ (j : Nat) (k : ScreenId) (code : ResultCode), j < num args 2 → num (record j) 0 = k.val →
        recordFields k (record j) = .error code →
        (∀ (g : Nat) (m : ScreenId), g < j → num (record g) 0 = m.val → ∃ f, recordFields m (record g) = .ok f) →
        exec (.storeScene args) s = .next (s.answers args.length code [])) ∧
      ((∀ (j : Nat) (k : ScreenId), j < num args 2 → num (record j) 0 = k.val → ∃ f, recordFields k (record j) = .ok f) →
        ∃ fs : List WindowFields,
          exec (.storeScene args) s = .next
            (({ s with scenes := s.scenes.set n ⟨arg args 1, fs⟩ } : State).answers args.length .ok []) ∧
          fs.length = num args 2 ∧
          ∀ (j : Nat) (f : WindowFields), fs[j]? = some f → ∃ k : ScreenId, num (record j) 0 = k.val ∧
            recordFields k (record j) = .ok f)) ∧
  ∀ (b screens : Byte) (s : State), s.listening →
    (16 ≤ b.toNat → exec (.captureScene [b, screens]) s = .next (s.answers 2 .badArgument [])) ∧
    ∀ n : SceneId, b.toNat = n.val →
      ∃ (hs : List Handle) (fs : List WindowFields),
        (∀ h : Handle, h ∈ hs ↔ ∃ c w v x, s.windows[h] = .live c w v x ∧ w ≠ .retire ∧ c.pinned = false ∧
          screens.getLsbD c.screen = true) ∧
        (hs.Pairwise fun g h => ∀ c d, s.windows[g].liveCopy = some c → s.windows[h].liveCopy = some d →
          c.screen < d.screen ∨ c.screen = d.screen ∧ stacksBelow (c.layer, g) (d.layer, h)) ∧
        fs.map some = hs.map (fun h => s.windows[h].liveCopy) ∧
        (16 < hs.length → exec (.captureScene [b, screens]) s = .next (s.answers 2 .sceneFull [])) ∧
        (hs.length ≤ 16 →
          exec (.captureScene [b, screens]) s = .next
            (({ s with scenes := s.scenes.set n ⟨screens, fs⟩ } : State).answers 2 .ok [byte hs.length]))

/-- R155: CLEAR SCENE empties the record; READ SCENE returns it and changes nothing. -/
def Obligations.ScenesAreClearedAndRead : Prop :=
  ∀ (b : Byte) (s : State), s.listening →
    (16 ≤ b.toNat →
      exec (.clearScene [b]) s = .next (s.answers 1 .badArgument []) ∧
      exec (.readScene [b]) s = .next (s.answers 1 .badArgument [])) ∧
    ∀ n : SceneId, b.toNat = n.val →
      exec (.clearScene [b]) s = .next (({ s with scenes := s.scenes.set n State.reset.scenes[n] } : State).answers 1 .ok []) ∧
      State.reset.scenes[n] = ⟨0x00#8, []⟩ ∧
      exec (.readScene [b]) s = .next
        (s.answers 1 .ok
          (s.scenes[n].covered :: byte s.scenes[n].entries.length :: s.scenes[n].entries.flatMap WindowFields.bytes))

/-- R12, R29, R156 to R158: a recall by either party tests the scene, the screens and the handles in order; one that is made marks the LIVE
windows of each applicable screen (the unpinned ones for the panel), places the entries of these screens, in order of screen and list,
on the lowest FREE handles, and leaves their stages SEALED with the caller as owner. RECALL SCENE is the venue controller's. -/
def Obligations.RecallsMarkPlaceAndSeal : Prop :=
  (∀ (caller : Party) (n : SceneId) (s : State),
    let applicable := fun k : ScreenId => s.scenes[n].covered.getLsbD k = true ∧ s.screens[k].mode ≠ .off ∧
      s.stages[k] = .empty ∧ (caller = .panel → s.screens[k].keypadLock = false)
    ∃ (free : List Handle) (placed : List WindowFields),
      free.Pairwise (· < ·) ∧ (∀ h : Handle, h ∈ free ↔ s.windows[h] = .free) ∧
      (placed.map WindowFields.screen).Pairwise (· ≤ ·) ∧
      (∀ k : ScreenId, (applicable k → placed.filter (·.screen = k) = s.scenes[n].entries.filter (·.screen = k)) ∧
        (¬ applicable k → placed.filter (·.screen = k) = [])) ∧
      (s.scenes[n].covered = 0x00#8 → s.recall caller n = .error .sceneEmpty) ∧
      (s.scenes[n].covered ≠ 0x00#8 → (∀ k, ¬ applicable k) → s.recall caller n = .error .refused) ∧
      ((∃ k, applicable k) → free.length < placed.length → s.recall caller n = .error .noHandles) ∧
      ((∃ k, applicable k) → placed.length ≤ free.length →
        ∃ (r : Recalled) (marked : Finset Handle), s.recall caller n = .ok r ∧
          (r.complete = true ↔ ∀ k : ScreenId, s.scenes[n].covered.getLsbD k = true → applicable k) ∧
          (∀ k : ScreenId, r.screens.getLsbD k = true ↔ applicable k) ∧ r.placed = placed.length ∧ r.marked = marked.card ∧
          (∀ h : Handle, h ∈ marked ↔ ∃ c w v x, s.windows[h] = .live c w v x ∧ applicable c.screen ∧
            (caller = .panel → c.pinned = false)) ∧
          r.after = { s with windows := r.after.windows, stages := r.after.stages } ∧
          (∀ k : ScreenId, (applicable k → r.after.stages[k] = .sealed caller 0) ∧
            (¬ applicable k → r.after.stages[k] = s.stages[k])) ∧
          (∀ h : Handle, h ∈ marked → ∀ c w v x, s.windows[h] = .live c w v x → r.after.windows[h] = .live c .retire v x) ∧
          (∀ h : Handle, h ∉ marked → s.windows[h] ≠ .free → r.after.windows[h] = s.windows[h]) ∧
          ∀ (m : Nat) (h : Handle), free[m]? = some h →
            (∀ f, placed[m]? = some f → r.after.windows[h] = .staged f) ∧ (placed[m]? = none → r.after.windows[h] = .free))) ∧
  ∀ (b : Byte) (s : State), s.listening →
    (16 ≤ b.toNat → exec (.recallScene [b]) s = .next (s.answers 1 .badArgument [])) ∧
    ∀ n : SceneId, b.toNat = n.val →
      (∀ code, s.recall .link n = .error code → exec (.recallScene [b]) s = .next (s.answers 1 code [])) ∧
      ∀ r, s.recall .link n = .ok r →
        exec (.recallScene [b]) s = .next
          (r.after.answers 1 .ok [if r.complete then 0x80#8 else 0x81#8, r.screens, byte r.placed, byte r.marked])

/-- R165, R166: BIND KEY tests its arguments in order and replaces the binding, its last outcome NONE, and leaves the debounce fields;
READ KEYS reports the eight keys in order, 6 bytes each, and changes nothing. -/
def Obligations.KeysAreBoundAndRead : Prop :=
  ∀ s : State, s.listening →
    (∃ fields : KeyId → List Byte,
      exec .readKeys s = .next (s.answers 0 .ok ((List.finRange 8).flatMap fields)) ∧
      ∀ k : KeyId, ∃ action number, fields k =
          [flagByte s.keys[k].enabled, s.keys[k].mode.code, action, number, s.keys[k].outcome.code, flagByte s.keys[k].pressed] ∧
        (s.keys[k].action = .none → action = 0x00#8 ∧ number = 0x00#8) ∧
        (∀ n, s.keys[k].action = .recall n → action = 0x01#8 ∧ number = byte n) ∧
        (∀ c, s.keys[k].action = .step c → action = 0x02#8 ∧ number = byte c) ∧
        ∀ c, s.keys[k].action = .toggle c → action = 0x03#8 ∧ number = byte c) ∧
    ∀ b enabled mode code number : Byte,
      (8 ≤ b.toNat ∨ 1 < enabled.toNat ∨ 1 < mode.toNat ∨ 3 < code.toNat ∨ (code ≠ 0x00#8 ∧ 16 ≤ number.toNat) →
        exec (.bindKey [b, enabled, mode, code, number]) s = .next (s.answers 5 .badArgument [])) ∧
      ∀ (k : KeyId) (m : KeyMode) (a : Action), b.toNat = k.val → enabled.toNat ≤ 1 → m.code = mode →
        (code = 0x00#8 → a = .none) →
        (code = 0x01#8 → ∃ n : SceneId, number.toNat = n.val ∧ a = .recall n) →
        (code = 0x02#8 → ∃ c : CarouselId, number.toNat = c.val ∧ a = .step c) →
        (code = 0x03#8 → ∃ c : CarouselId, number.toNat = c.val ∧ a = .toggle c) → code.toNat ≤ 3 →
        exec (.bindKey [b, enabled, mode, code, number]) s = .next
          (({ s with
              keys := s.keys.set k
                { s.keys[k] with enabled := decide (enabled = 0x01#8), mode := m, action := a, outcome := .none } } : State).answers
            5 .ok [])

/-- R161 to R163: the rows KEY_PRESS, KEY_RELEASE and KEY_REPEAT, a scan tick at one key whose third sample, or whose repeat count, is due;
an action other than NONE records its outcome, made as the panel, and raises KEY. That they do nothing at any other key is the model's
choice (log 4). -/
def Obligations.KeyEventsPerformTheAction : Prop :=
  ∀ (k : KeyId) (s : State),
    let old := s.keys[k]
    let performs := fun (i : Instr) (new : Key) =>
      (∀ n : SceneId, old.action = .recall n →
        (∀ code, s.recall .panel n = .error code →
          exec i s = .next
            { s with keys := s.keys.set k { new with outcome := .refusal code }, events := s.events.raise .key }) ∧
        ∀ r, s.recall .panel n = .ok r →
          exec i s = .next
            { r.after with
              keys := s.keys.set k { new with outcome := if r.complete then .done else .partly }
              events := s.events.raise .key }) ∧
      ∀ c : CarouselId,
        let running := s.carousels[c].request = .start ∨ (s.carousels[c].request = .none ∧ s.carousels[c].state = .running)
        let does := fun a : Answer =>
          exec i s = .next
            ((a.after.setKey k
              { new with outcome := if a.code = .ok then .done else .refusal a.code }).raise .key)
        (old.action = .step c → does (s.stepCarousel c)) ∧
        (old.action = .toggle c → (running → does (s.stopCarousel c)) ∧ (¬ running → does (s.startCarousel c)))
    let pressed : Key := { old with pressed := true, disagreement := 0, repeatCount := 0, acted := old.enabled }
    let repeated : Key := { old with repeatCount := 30 }
    (old.pressed = false → 2 ≤ old.disagreement →
      (old.enabled = false ∨ old.action = .none → exec (.keyPress k) s = .next { s with keys := s.keys.set k pressed }) ∧
      (old.enabled = true → performs (.keyPress k) pressed)) ∧
    (old.pressed = true ∨ old.disagreement < 2 → exec (.keyPress k) s = .next s) ∧
    (old.pressed = true → 2 ≤ old.disagreement →
      exec (.keyRelease k) s = .next
        { s with
          keys := s.keys.set k { old with pressed := false, disagreement := 0, repeatCount := 0, acted := false } }) ∧
    (old.pressed = false ∨ old.disagreement < 2 → exec (.keyRelease k) s = .next s) ∧
    (old.pressed = true → 49 ≤ old.repeatCount →
      let acts := old.enabled = true ∧ old.mode = .repeating ∧ old.acted = true
      (¬ acts ∨ old.action = .none → exec (.keyRepeat k) s = .next { s with keys := s.keys.set k repeated }) ∧
      (acts → performs (.keyRepeat k) repeated)) ∧
    (old.pressed = false ∨ old.repeatCount < 49 → exec (.keyRepeat k) s = .next s)
end

