-- ==== Sys2Proof/Laws/State.lean ====
section
/-! SUPPORT. One lemma per field per update of the state, and reading a table back after one record of it was replaced. -/

namespace Sys2Proof.Machine

/-! ### Tables -/

@[simp] theorem mapTable_getElem {α : Type} {n : Nat} (f : Fin n → α → α) (v : Vector α n) (i : Nat) (hi : i < n) :
    (mapTable f v)[i] = f ⟨i, hi⟩ v[i] := by
  simp [mapTable, Vector.getElem_mk]

theorem mapTable_get {α : Type} {n : Nat} (f : Fin n → α → α) (v : Vector α n) (i : Fin n) :
    (mapTable f v)[i] = f i v[i] := by
  simp

theorem vector_get_set {α : Type} {n : Nat} (v : Vector α n) (i j : Fin n) (x : α) :
    (v.set i x)[j] = if i = j then x else v[j] := by
  simp [Vector.getElem_set, Fin.ext_iff]

theorem vector_get_set_self {α : Type} {n : Nat} (v : Vector α n) (i : Fin n) (x : α) : (v.set i x)[i] = x := by
  simp

theorem vector_get_set_ne {α : Type} {n : Nat} (v : Vector α n) {i j : Fin n} (x : α) (h : i ≠ j) : (v.set i x)[j] = v[j] := by
  rw [vector_get_set, if_neg h]

/-- Two tables with the same record at every number are the same table. -/
theorem table_ext {α : Type} {n : Nat} {v w : Vector α n} (h : ∀ i : Fin n, v[i] = w[i]) : v = w := by
  ext i hi
  exact h ⟨i, hi⟩

/-! ### setWindow -/

@[simp] theorem State.setWindow_pending (s : State) (h : Handle) (w : Window) : (s.setWindow h w).pending = s.pending := rfl
@[simp] theorem State.setWindow_startup (s : State) (h : Handle) (w : Window) : (s.setWindow h w).startup = s.startup := rfl
@[simp] theorem State.setWindow_port (s : State) (h : Handle) (w : Window) : (s.setWindow h w).port = s.port := rfl
@[simp] theorem State.setWindow_windows (s : State) (h : Handle) (w : Window) : (s.setWindow h w).windows = s.windows.set h w := rfl
@[simp] theorem State.setWindow_stages (s : State) (h : Handle) (w : Window) : (s.setWindow h w).stages = s.stages := rfl
@[simp] theorem State.setWindow_expirySetting (s : State) (h : Handle) (w : Window) : (s.setWindow h w).expirySetting = s.expirySetting := rfl
@[simp] theorem State.setWindow_screens (s : State) (h : Handle) (w : Window) : (s.setWindow h w).screens = s.screens := rfl
@[simp] theorem State.setWindow_inputs (s : State) (h : Handle) (w : Window) : (s.setWindow h w).inputs = s.inputs := rfl
@[simp] theorem State.setWindow_lossTimeout (s : State) (h : Handle) (w : Window) : (s.setWindow h w).lossTimeout = s.lossTimeout := rfl
@[simp] theorem State.setWindow_timebase (s : State) (h : Handle) (w : Window) : (s.setWindow h w).timebase = s.timebase := rfl
@[simp] theorem State.setWindow_carousels (s : State) (h : Handle) (w : Window) : (s.setWindow h w).carousels = s.carousels := rfl
@[simp] theorem State.setWindow_scenes (s : State) (h : Handle) (w : Window) : (s.setWindow h w).scenes = s.scenes := rfl
@[simp] theorem State.setWindow_keys (s : State) (h : Handle) (w : Window) : (s.setWindow h w).keys = s.keys := rfl
@[simp] theorem State.setWindow_keyLines (s : State) (h : Handle) (w : Window) : (s.setWindow h w).keyLines = s.keyLines := rfl
@[simp] theorem State.setWindow_events (s : State) (h : Handle) (w : Window) : (s.setWindow h w).events = s.events := rfl

/-! ### setStage -/

@[simp] theorem State.setStage_pending (s : State) (k : ScreenId) (g : Stage) : (s.setStage k g).pending = s.pending := rfl
@[simp] theorem State.setStage_startup (s : State) (k : ScreenId) (g : Stage) : (s.setStage k g).startup = s.startup := rfl
@[simp] theorem State.setStage_port (s : State) (k : ScreenId) (g : Stage) : (s.setStage k g).port = s.port := rfl
@[simp] theorem State.setStage_windows (s : State) (k : ScreenId) (g : Stage) : (s.setStage k g).windows = s.windows := rfl
@[simp] theorem State.setStage_stages (s : State) (k : ScreenId) (g : Stage) : (s.setStage k g).stages = s.stages.set k g := rfl
@[simp] theorem State.setStage_expirySetting (s : State) (k : ScreenId) (g : Stage) : (s.setStage k g).expirySetting = s.expirySetting := rfl
@[simp] theorem State.setStage_screens (s : State) (k : ScreenId) (g : Stage) : (s.setStage k g).screens = s.screens := rfl
@[simp] theorem State.setStage_inputs (s : State) (k : ScreenId) (g : Stage) : (s.setStage k g).inputs = s.inputs := rfl
@[simp] theorem State.setStage_lossTimeout (s : State) (k : ScreenId) (g : Stage) : (s.setStage k g).lossTimeout = s.lossTimeout := rfl
@[simp] theorem State.setStage_timebase (s : State) (k : ScreenId) (g : Stage) : (s.setStage k g).timebase = s.timebase := rfl
@[simp] theorem State.setStage_carousels (s : State) (k : ScreenId) (g : Stage) : (s.setStage k g).carousels = s.carousels := rfl
@[simp] theorem State.setStage_scenes (s : State) (k : ScreenId) (g : Stage) : (s.setStage k g).scenes = s.scenes := rfl
@[simp] theorem State.setStage_keys (s : State) (k : ScreenId) (g : Stage) : (s.setStage k g).keys = s.keys := rfl
@[simp] theorem State.setStage_keyLines (s : State) (k : ScreenId) (g : Stage) : (s.setStage k g).keyLines = s.keyLines := rfl
@[simp] theorem State.setStage_events (s : State) (k : ScreenId) (g : Stage) : (s.setStage k g).events = s.events := rfl

/-! ### setScreen -/

@[simp] theorem State.setScreen_pending (s : State) (k : ScreenId) (c : Screen) : (s.setScreen k c).pending = s.pending := rfl
@[simp] theorem State.setScreen_startup (s : State) (k : ScreenId) (c : Screen) : (s.setScreen k c).startup = s.startup := rfl
@[simp] theorem State.setScreen_port (s : State) (k : ScreenId) (c : Screen) : (s.setScreen k c).port = s.port := rfl
@[simp] theorem State.setScreen_windows (s : State) (k : ScreenId) (c : Screen) : (s.setScreen k c).windows = s.windows := rfl
@[simp] theorem State.setScreen_stages (s : State) (k : ScreenId) (c : Screen) : (s.setScreen k c).stages = s.stages := rfl
@[simp] theorem State.setScreen_expirySetting (s : State) (k : ScreenId) (c : Screen) : (s.setScreen k c).expirySetting = s.expirySetting := rfl
@[simp] theorem State.setScreen_screens (s : State) (k : ScreenId) (c : Screen) : (s.setScreen k c).screens = s.screens.set k c := rfl
@[simp] theorem State.setScreen_inputs (s : State) (k : ScreenId) (c : Screen) : (s.setScreen k c).inputs = s.inputs := rfl
@[simp] theorem State.setScreen_lossTimeout (s : State) (k : ScreenId) (c : Screen) : (s.setScreen k c).lossTimeout = s.lossTimeout := rfl
@[simp] theorem State.setScreen_timebase (s : State) (k : ScreenId) (c : Screen) : (s.setScreen k c).timebase = s.timebase := rfl
@[simp] theorem State.setScreen_carousels (s : State) (k : ScreenId) (c : Screen) : (s.setScreen k c).carousels = s.carousels := rfl
@[simp] theorem State.setScreen_scenes (s : State) (k : ScreenId) (c : Screen) : (s.setScreen k c).scenes = s.scenes := rfl
@[simp] theorem State.setScreen_keys (s : State) (k : ScreenId) (c : Screen) : (s.setScreen k c).keys = s.keys := rfl
@[simp] theorem State.setScreen_keyLines (s : State) (k : ScreenId) (c : Screen) : (s.setScreen k c).keyLines = s.keyLines := rfl
@[simp] theorem State.setScreen_events (s : State) (k : ScreenId) (c : Screen) : (s.setScreen k c).events = s.events := rfl

/-! ### setInput -/

@[simp] theorem State.setInput_pending (s : State) (i : InputId) (p : Input) : (s.setInput i p).pending = s.pending := rfl
@[simp] theorem State.setInput_startup (s : State) (i : InputId) (p : Input) : (s.setInput i p).startup = s.startup := rfl
@[simp] theorem State.setInput_port (s : State) (i : InputId) (p : Input) : (s.setInput i p).port = s.port := rfl
@[simp] theorem State.setInput_windows (s : State) (i : InputId) (p : Input) : (s.setInput i p).windows = s.windows := rfl
@[simp] theorem State.setInput_stages (s : State) (i : InputId) (p : Input) : (s.setInput i p).stages = s.stages := rfl
@[simp] theorem State.setInput_expirySetting (s : State) (i : InputId) (p : Input) : (s.setInput i p).expirySetting = s.expirySetting := rfl
@[simp] theorem State.setInput_screens (s : State) (i : InputId) (p : Input) : (s.setInput i p).screens = s.screens := rfl
@[simp] theorem State.setInput_inputs (s : State) (i : InputId) (p : Input) : (s.setInput i p).inputs = s.inputs.set i p := rfl
@[simp] theorem State.setInput_lossTimeout (s : State) (i : InputId) (p : Input) : (s.setInput i p).lossTimeout = s.lossTimeout := rfl
@[simp] theorem State.setInput_timebase (s : State) (i : InputId) (p : Input) : (s.setInput i p).timebase = s.timebase := rfl
@[simp] theorem State.setInput_carousels (s : State) (i : InputId) (p : Input) : (s.setInput i p).carousels = s.carousels := rfl
@[simp] theorem State.setInput_scenes (s : State) (i : InputId) (p : Input) : (s.setInput i p).scenes = s.scenes := rfl
@[simp] theorem State.setInput_keys (s : State) (i : InputId) (p : Input) : (s.setInput i p).keys = s.keys := rfl
@[simp] theorem State.setInput_keyLines (s : State) (i : InputId) (p : Input) : (s.setInput i p).keyLines = s.keyLines := rfl
@[simp] theorem State.setInput_events (s : State) (i : InputId) (p : Input) : (s.setInput i p).events = s.events := rfl

/-! ### setCarousel -/

@[simp] theorem State.setCarousel_pending (s : State) (c : CarouselId) (r : Carousel) : (s.setCarousel c r).pending = s.pending := rfl
@[simp] theorem State.setCarousel_startup (s : State) (c : CarouselId) (r : Carousel) : (s.setCarousel c r).startup = s.startup := rfl
@[simp] theorem State.setCarousel_port (s : State) (c : CarouselId) (r : Carousel) : (s.setCarousel c r).port = s.port := rfl
@[simp] theorem State.setCarousel_windows (s : State) (c : CarouselId) (r : Carousel) : (s.setCarousel c r).windows = s.windows := rfl
@[simp] theorem State.setCarousel_stages (s : State) (c : CarouselId) (r : Carousel) : (s.setCarousel c r).stages = s.stages := rfl
@[simp] theorem State.setCarousel_expirySetting (s : State) (c : CarouselId) (r : Carousel) : (s.setCarousel c r).expirySetting = s.expirySetting := rfl
@[simp] theorem State.setCarousel_screens (s : State) (c : CarouselId) (r : Carousel) : (s.setCarousel c r).screens = s.screens := rfl
@[simp] theorem State.setCarousel_inputs (s : State) (c : CarouselId) (r : Carousel) : (s.setCarousel c r).inputs = s.inputs := rfl
@[simp] theorem State.setCarousel_lossTimeout (s : State) (c : CarouselId) (r : Carousel) : (s.setCarousel c r).lossTimeout = s.lossTimeout := rfl
@[simp] theorem State.setCarousel_timebase (s : State) (c : CarouselId) (r : Carousel) : (s.setCarousel c r).timebase = s.timebase := rfl
@[simp] theorem State.setCarousel_carousels (s : State) (c : CarouselId) (r : Carousel) : (s.setCarousel c r).carousels = s.carousels.set c r := rfl
@[simp] theorem State.setCarousel_scenes (s : State) (c : CarouselId) (r : Carousel) : (s.setCarousel c r).scenes = s.scenes := rfl
@[simp] theorem State.setCarousel_keys (s : State) (c : CarouselId) (r : Carousel) : (s.setCarousel c r).keys = s.keys := rfl
@[simp] theorem State.setCarousel_keyLines (s : State) (c : CarouselId) (r : Carousel) : (s.setCarousel c r).keyLines = s.keyLines := rfl
@[simp] theorem State.setCarousel_events (s : State) (c : CarouselId) (r : Carousel) : (s.setCarousel c r).events = s.events := rfl

/-! ### setScene -/

@[simp] theorem State.setScene_pending (s : State) (n : SceneId) (r : Scene) : (s.setScene n r).pending = s.pending := rfl
@[simp] theorem State.setScene_startup (s : State) (n : SceneId) (r : Scene) : (s.setScene n r).startup = s.startup := rfl
@[simp] theorem State.setScene_port (s : State) (n : SceneId) (r : Scene) : (s.setScene n r).port = s.port := rfl
@[simp] theorem State.setScene_windows (s : State) (n : SceneId) (r : Scene) : (s.setScene n r).windows = s.windows := rfl
@[simp] theorem State.setScene_stages (s : State) (n : SceneId) (r : Scene) : (s.setScene n r).stages = s.stages := rfl
@[simp] theorem State.setScene_expirySetting (s : State) (n : SceneId) (r : Scene) : (s.setScene n r).expirySetting = s.expirySetting := rfl
@[simp] theorem State.setScene_screens (s : State) (n : SceneId) (r : Scene) : (s.setScene n r).screens = s.screens := rfl
@[simp] theorem State.setScene_inputs (s : State) (n : SceneId) (r : Scene) : (s.setScene n r).inputs = s.inputs := rfl
@[simp] theorem State.setScene_lossTimeout (s : State) (n : SceneId) (r : Scene) : (s.setScene n r).lossTimeout = s.lossTimeout := rfl
@[simp] theorem State.setScene_timebase (s : State) (n : SceneId) (r : Scene) : (s.setScene n r).timebase = s.timebase := rfl
@[simp] theorem State.setScene_carousels (s : State) (n : SceneId) (r : Scene) : (s.setScene n r).carousels = s.carousels := rfl
@[simp] theorem State.setScene_scenes (s : State) (n : SceneId) (r : Scene) : (s.setScene n r).scenes = s.scenes.set n r := rfl
@[simp] theorem State.setScene_keys (s : State) (n : SceneId) (r : Scene) : (s.setScene n r).keys = s.keys := rfl
@[simp] theorem State.setScene_keyLines (s : State) (n : SceneId) (r : Scene) : (s.setScene n r).keyLines = s.keyLines := rfl
@[simp] theorem State.setScene_events (s : State) (n : SceneId) (r : Scene) : (s.setScene n r).events = s.events := rfl

/-! ### setKey -/

@[simp] theorem State.setKey_pending (s : State) (k : KeyId) (r : Key) : (s.setKey k r).pending = s.pending := rfl
@[simp] theorem State.setKey_startup (s : State) (k : KeyId) (r : Key) : (s.setKey k r).startup = s.startup := rfl
@[simp] theorem State.setKey_port (s : State) (k : KeyId) (r : Key) : (s.setKey k r).port = s.port := rfl
@[simp] theorem State.setKey_windows (s : State) (k : KeyId) (r : Key) : (s.setKey k r).windows = s.windows := rfl
@[simp] theorem State.setKey_stages (s : State) (k : KeyId) (r : Key) : (s.setKey k r).stages = s.stages := rfl
@[simp] theorem State.setKey_expirySetting (s : State) (k : KeyId) (r : Key) : (s.setKey k r).expirySetting = s.expirySetting := rfl
@[simp] theorem State.setKey_screens (s : State) (k : KeyId) (r : Key) : (s.setKey k r).screens = s.screens := rfl
@[simp] theorem State.setKey_inputs (s : State) (k : KeyId) (r : Key) : (s.setKey k r).inputs = s.inputs := rfl
@[simp] theorem State.setKey_lossTimeout (s : State) (k : KeyId) (r : Key) : (s.setKey k r).lossTimeout = s.lossTimeout := rfl
@[simp] theorem State.setKey_timebase (s : State) (k : KeyId) (r : Key) : (s.setKey k r).timebase = s.timebase := rfl
@[simp] theorem State.setKey_carousels (s : State) (k : KeyId) (r : Key) : (s.setKey k r).carousels = s.carousels := rfl
@[simp] theorem State.setKey_scenes (s : State) (k : KeyId) (r : Key) : (s.setKey k r).scenes = s.scenes := rfl
@[simp] theorem State.setKey_keys (s : State) (k : KeyId) (r : Key) : (s.setKey k r).keys = s.keys.set k r := rfl
@[simp] theorem State.setKey_keyLines (s : State) (k : KeyId) (r : Key) : (s.setKey k r).keyLines = s.keyLines := rfl
@[simp] theorem State.setKey_events (s : State) (k : KeyId) (r : Key) : (s.setKey k r).events = s.events := rfl

/-! ### answers -/

@[simp] theorem State.answers_pending (s : State) (n : Nat) (c : ResultCode) (l : List Byte) : (s.answers n c l).pending = s.pending := rfl
@[simp] theorem State.answers_startup (s : State) (n : Nat) (c : ResultCode) (l : List Byte) : (s.answers n c l).startup = s.startup := rfl
@[simp] theorem State.answers_windows (s : State) (n : Nat) (c : ResultCode) (l : List Byte) : (s.answers n c l).windows = s.windows := rfl
@[simp] theorem State.answers_stages (s : State) (n : Nat) (c : ResultCode) (l : List Byte) : (s.answers n c l).stages = s.stages := rfl
@[simp] theorem State.answers_expirySetting (s : State) (n : Nat) (c : ResultCode) (l : List Byte) : (s.answers n c l).expirySetting = s.expirySetting := rfl
@[simp] theorem State.answers_screens (s : State) (n : Nat) (c : ResultCode) (l : List Byte) : (s.answers n c l).screens = s.screens := rfl
@[simp] theorem State.answers_inputs (s : State) (n : Nat) (c : ResultCode) (l : List Byte) : (s.answers n c l).inputs = s.inputs := rfl
@[simp] theorem State.answers_lossTimeout (s : State) (n : Nat) (c : ResultCode) (l : List Byte) : (s.answers n c l).lossTimeout = s.lossTimeout := rfl
@[simp] theorem State.answers_timebase (s : State) (n : Nat) (c : ResultCode) (l : List Byte) : (s.answers n c l).timebase = s.timebase := rfl
@[simp] theorem State.answers_carousels (s : State) (n : Nat) (c : ResultCode) (l : List Byte) : (s.answers n c l).carousels = s.carousels := rfl
@[simp] theorem State.answers_scenes (s : State) (n : Nat) (c : ResultCode) (l : List Byte) : (s.answers n c l).scenes = s.scenes := rfl
@[simp] theorem State.answers_keys (s : State) (n : Nat) (c : ResultCode) (l : List Byte) : (s.answers n c l).keys = s.keys := rfl
@[simp] theorem State.answers_keyLines (s : State) (n : Nat) (c : ResultCode) (l : List Byte) : (s.answers n c l).keyLines = s.keyLines := rfl
@[simp] theorem State.answers_events (s : State) (n : Nat) (c : ResultCode) (l : List Byte) : (s.answers n c l).events = s.events := rfl

/-! ### raise -/

@[simp] theorem State.raise_pending (s : State) (x : Flag) : (s.raise x).pending = s.pending := rfl
@[simp] theorem State.raise_startup (s : State) (x : Flag) : (s.raise x).startup = s.startup := rfl
@[simp] theorem State.raise_port (s : State) (x : Flag) : (s.raise x).port = s.port := rfl
@[simp] theorem State.raise_windows (s : State) (x : Flag) : (s.raise x).windows = s.windows := rfl
@[simp] theorem State.raise_stages (s : State) (x : Flag) : (s.raise x).stages = s.stages := rfl
@[simp] theorem State.raise_expirySetting (s : State) (x : Flag) : (s.raise x).expirySetting = s.expirySetting := rfl
@[simp] theorem State.raise_screens (s : State) (x : Flag) : (s.raise x).screens = s.screens := rfl
@[simp] theorem State.raise_inputs (s : State) (x : Flag) : (s.raise x).inputs = s.inputs := rfl
@[simp] theorem State.raise_lossTimeout (s : State) (x : Flag) : (s.raise x).lossTimeout = s.lossTimeout := rfl
@[simp] theorem State.raise_timebase (s : State) (x : Flag) : (s.raise x).timebase = s.timebase := rfl
@[simp] theorem State.raise_carousels (s : State) (x : Flag) : (s.raise x).carousels = s.carousels := rfl
@[simp] theorem State.raise_scenes (s : State) (x : Flag) : (s.raise x).scenes = s.scenes := rfl
@[simp] theorem State.raise_keys (s : State) (x : Flag) : (s.raise x).keys = s.keys := rfl
@[simp] theorem State.raise_keyLines (s : State) (x : Flag) : (s.raise x).keyLines = s.keyLines := rfl
@[simp] theorem State.raise_events (s : State) (x : Flag) : (s.raise x).events = s.events.raise x := rfl
@[simp] theorem State.raiseIf_pending (s : State) (b : Bool) (x : Flag) : (s.raiseIf b x).pending = s.pending := by cases b <;> rfl
@[simp] theorem State.raiseIf_startup (s : State) (b : Bool) (x : Flag) : (s.raiseIf b x).startup = s.startup := by cases b <;> rfl
@[simp] theorem State.raiseIf_port (s : State) (b : Bool) (x : Flag) : (s.raiseIf b x).port = s.port := by cases b <;> rfl
@[simp] theorem State.raiseIf_windows (s : State) (b : Bool) (x : Flag) : (s.raiseIf b x).windows = s.windows := by cases b <;> rfl
@[simp] theorem State.raiseIf_stages (s : State) (b : Bool) (x : Flag) : (s.raiseIf b x).stages = s.stages := by cases b <;> rfl
@[simp] theorem State.raiseIf_expirySetting (s : State) (b : Bool) (x : Flag) : (s.raiseIf b x).expirySetting = s.expirySetting := by cases b <;> rfl
@[simp] theorem State.raiseIf_screens (s : State) (b : Bool) (x : Flag) : (s.raiseIf b x).screens = s.screens := by cases b <;> rfl
@[simp] theorem State.raiseIf_inputs (s : State) (b : Bool) (x : Flag) : (s.raiseIf b x).inputs = s.inputs := by cases b <;> rfl
@[simp] theorem State.raiseIf_lossTimeout (s : State) (b : Bool) (x : Flag) : (s.raiseIf b x).lossTimeout = s.lossTimeout := by cases b <;> rfl
@[simp] theorem State.raiseIf_timebase (s : State) (b : Bool) (x : Flag) : (s.raiseIf b x).timebase = s.timebase := by cases b <;> rfl
@[simp] theorem State.raiseIf_carousels (s : State) (b : Bool) (x : Flag) : (s.raiseIf b x).carousels = s.carousels := by cases b <;> rfl
@[simp] theorem State.raiseIf_scenes (s : State) (b : Bool) (x : Flag) : (s.raiseIf b x).scenes = s.scenes := by cases b <;> rfl
@[simp] theorem State.raiseIf_keys (s : State) (b : Bool) (x : Flag) : (s.raiseIf b x).keys = s.keys := by cases b <;> rfl
@[simp] theorem State.raiseIf_keyLines (s : State) (b : Bool) (x : Flag) : (s.raiseIf b x).keyLines = s.keyLines := by cases b <;> rfl
@[simp] theorem State.raiseIf_events (s : State) (b : Bool) (x : Flag) : (s.raiseIf b x).events = if b then s.events.raise x else s.events := by
  cases b <;> rfl

/-! ### applyRequests -/

@[simp] theorem State.applyRequests_pending (s : State) : s.applyRequests.pending = s.pending := rfl
@[simp] theorem State.applyRequests_startup (s : State) : s.applyRequests.startup = s.startup := rfl
@[simp] theorem State.applyRequests_port (s : State) : s.applyRequests.port = s.port := rfl
@[simp] theorem State.applyRequests_windows (s : State) : s.applyRequests.windows = s.windows := rfl
@[simp] theorem State.applyRequests_stages (s : State) : s.applyRequests.stages = s.stages := rfl
@[simp] theorem State.applyRequests_expirySetting (s : State) : s.applyRequests.expirySetting = s.expirySetting := rfl
@[simp] theorem State.applyRequests_screens (s : State) : s.applyRequests.screens = s.screens := rfl
@[simp] theorem State.applyRequests_inputs (s : State) : s.applyRequests.inputs = s.inputs := rfl
@[simp] theorem State.applyRequests_lossTimeout (s : State) : s.applyRequests.lossTimeout = s.lossTimeout := rfl
@[simp] theorem State.applyRequests_timebase (s : State) : s.applyRequests.timebase = s.timebase := rfl
@[simp] theorem State.applyRequests_scenes (s : State) : s.applyRequests.scenes = s.scenes := rfl
@[simp] theorem State.applyRequests_keys (s : State) : s.applyRequests.keys = s.keys := rfl
@[simp] theorem State.applyRequests_keyLines (s : State) : s.applyRequests.keyLines = s.keyLines := rfl
@[simp] theorem State.applyRequests_events (s : State) : s.applyRequests.events = s.events := rfl
@[simp] theorem State.applyRequests_carousels (s : State) :
    s.applyRequests.carousels = mapTable (fun _ c => c.applyRequest) s.carousels := rfl

end Sys2Proof.Machine
end

