-- ==== Sys2Proof/Laws/Ops.lean ====
section
/-! SUPPORT. What the shared operations do, each said once: identities and clamps, the lowest free handle (R2), the stacking order (R5),
the discard of a stage (R33), causes of the event unit (R179), pins and slots (R106), presence (R105). -/

namespace Sys2Proof.Machine

/-! ### Numbers -/

theorem ident_eq_some {n : Nat} {b : Byte} {i : Fin n} : ident n b = some i ↔ b.toNat = i.val := by
  unfold ident
  split
  · simp [Fin.ext_iff]
  · rename_i h
    simp only [reduceCtorEq, false_iff]
    have := i.isLt
    omega

theorem ident_eq_none {n : Nat} {b : Byte} : ident n b = none ↔ n ≤ b.toNat := by
  unfold ident
  split <;> simp <;> omega

@[simp] theorem clamp_val (most v : Nat) : (clamp most v).val = min v most := rfl

@[simp] theorem byte_toNat (n : Nat) : (byte n).toNat = n % 256 := by simp [byte]

theorem yesNo_eq_some {b : Byte} {v : Bool} : yesNo b = some v ↔ b = flagByte v := by
  unfold yesNo flagByte
  cases v <;> by_cases h0 : b = 0x00#8 <;> by_cases h1 : b = 0x01#8 <;> simp_all

/-! ### Handles -/

/-- The answer of `find?` over all numbers is the lowest one that fits. -/
theorem find?_finRange_eq_some {n : Nat} {p : Fin n → Bool} {i : Fin n} :
    (List.finRange n).find? p = some i ↔ p i = true ∧ ∀ j : Fin n, j < i → p j = false := by
  constructor
  · intro h
    refine ⟨List.find?_some h, fun j hj => ?_⟩
    rw [List.find?_eq_some_iff_getElem] at h
    obtain ⟨_, k, hk, hki, hall⟩ := h
    have hi : i.val = k := by
      rw [← hki]
      simp
    have := hall j.val (by omega)
    simpa using this
  · rintro ⟨hi, hall⟩
    rw [List.find?_eq_some_iff_getElem]
    refine ⟨hi, i.val, by simp, by simp, fun j hj => ?_⟩
    have := hall ⟨j, by have := i.isLt; omega⟩ (by simpa [Fin.lt_def] using hj)
    simpa using this

/-- The lowest free handle is FREE and every lower one is not (R2). -/
theorem State.lowestFree_eq_some {s : State} {h : Handle} :
    s.lowestFree = some h ↔ s.windows[h].isFree = true ∧ ∀ g : Handle, g < h → s.windows[g].isFree = false :=
  find?_finRange_eq_some

/-- There is no free handle exactly when no window is FREE. -/
theorem State.lowestFree_eq_none {s : State} : s.lowestFree = none ↔ ∀ h : Handle, s.windows[h].isFree = false := by
  simp [State.lowestFree, List.find?_eq_none]

@[simp] theorem Window.isFree_iff {w : Window} : w.isFree = true ↔ w = .free := by cases w <;> simp [Window.isFree]

@[simp] theorem Window.isShown_free : Window.isShown .free = false := rfl

@[simp] theorem Window.belongsTo_free (k : ScreenId) : Window.belongsTo .free k = false := by simp [Window.belongsTo, Window.screen]

theorem Window.belongsTo_iff {w : Window} {k : ScreenId} : w.belongsTo k = true ↔ w.screen = some k := by simp [Window.belongsTo]

theorem State.hasShown_iff {s : State} {k : ScreenId} :
    s.hasShown k = true ↔ ∃ h : Handle, s.windows[h].isShown = true ∧ s.windows[h].belongsTo k = true := by
  simp [State.hasShown]

/-! ### The stacking order (R5) -/

theorem mem_stackOrder {layer : Handle → Option (Fin 16)} {h : Handle} : h ∈ stackOrder layer ↔ (layer h).isSome = true := by
  simp only [stackOrder, List.mem_flatMap, List.mem_finRange, List.mem_filter, true_and, decide_eq_true_eq]
  rw [Option.isSome_iff_exists]

/-- The list is in strictly ascending stacking key. -/
theorem stackOrder_pairwise (layer : Handle → Option (Fin 16)) :
    (stackOrder layer).Pairwise fun g h =>
      ∃ a b, layer g = some a ∧ layer h = some b ∧ (a < b ∨ (a = b ∧ g < h)) := by
  unfold stackOrder
  rw [List.pairwise_flatMap]
  constructor
  · intro l _
    have := List.Pairwise.filter (fun h => decide (layer h = some l)) (List.pairwise_lt_finRange 64)
    refine List.Pairwise.imp_of_mem ?_ this
    intro g h hg hh hlt
    simp only [List.mem_filter, decide_eq_true_eq] at hg hh
    exact ⟨l, l, hg.2, hh.2, Or.inr ⟨rfl, hlt⟩⟩
  · refine List.Pairwise.imp ?_ (List.pairwise_lt_finRange 16)
    intro a b hab g hg h hh
    simp only [List.mem_filter, decide_eq_true_eq] at hg hh
    exact ⟨a, b, hg.2, hh.2, Or.inl hab⟩

theorem stackOrder_nodup (layer : Handle → Option (Fin 16)) : (stackOrder layer).Nodup := by
  refine List.Pairwise.imp ?_ (stackOrder_pairwise layer)
  rintro g h ⟨a, b, hg, hh, hlt⟩ rfl
  rw [hg] at hh
  cases hh
  rcases hlt with hlt | ⟨_, hlt⟩ <;> exact absurd hlt (lt_irrefl _)

/-! ### Stages -/

/-- What a discard leaves: the stage EMPTY, each window of the screen discarded, everything else as it was (R33). -/
theorem State.discardStage_windows (s : State) (k : ScreenId) (h : Handle) :
    (s.discardStage k).windows[h] = if s.windows[h].belongsTo k then s.windows[h].discard else s.windows[h] := by
  simp [State.discardStage]

@[simp] theorem State.discardStage_stages (s : State) (k : ScreenId) : (s.discardStage k).stages = s.stages.set k .empty := rfl

theorem Stage.refusal_eq_none {g : Stage} {p : Party} : g.refusal p = none ↔ g = .empty ∨ ∃ n, g = .opened p n := by
  cases g with
  | empty => simp [Stage.refusal]
  | opened o n => cases o <;> cases p <;> simp [Stage.refusal]
  | sealed o n => simp [Stage.refusal]

/-! ### The event unit -/

theorem Flag.bit_lt (f : Flag) : f.bit < 8 := by cases f <;> decide

theorem Flag.byte_getLsbD (f g : Flag) : f.byte.getLsbD g.bit = decide (f = g) := by cases f <;> cases g <;> decide

/-- A cause sets its flag and no other (R179). -/
theorem EventUnit.raise_isSet (e : EventUnit) (f g : Flag) : (e.raise f).isSet g = (e.isSet g || decide (f = g)) := by
  unfold EventUnit.raise
  split
  · rename_i h
    by_cases hfg : f = g
    · subst hfg; simp [h]
    · simp [hfg]
  · simp [EventUnit.isSet, Flag.byte_getLsbD]

@[simp] theorem EventUnit.raise_mask (e : EventUnit) (f : Flag) : (e.raise f).mask = e.mask := by unfold EventUnit.raise; split <;> rfl
@[simp] theorem EventUnit.raise_lineMode (e : EventUnit) (f : Flag) : (e.raise f).lineMode = e.lineMode := by
  unfold EventUnit.raise; split <;> rfl
@[simp] theorem EventUnit.raise_clearMode (e : EventUnit) (f : Flag) : (e.raise f).clearMode = e.clearMode := by
  unfold EventUnit.raise; split <;> rfl
@[simp] theorem EventUnit.raise_sensitivity (e : EventUnit) (f : Flag) : (e.raise f).sensitivity = e.sensitivity := by
  unfold EventUnit.raise; split <;> rfl

/-- A cause is raised and nothing else happens to the event unit (R179, R181). -/
theorem EventUnit.raise_onlyRaised (e : EventUnit) (f : Flag) : e.onlyRaised (e.raise f) := by
  refine ⟨fun g hg => by simp [EventUnit.raise_isSet, hg], by simp, by simp, by simp, by simp, ?_, ?_⟩
  · rintro ⟨hp, g, hg, he, hs⟩
    obtain rfl : f = g := by simpa [EventUnit.raise_isSet, hg] using hs
    simp [EventUnit.raise, hg, hp, he]
  · intro h
    by_cases hf : e.isSet f = true
    · simp [EventUnit.raise, hf]
    · have hn : ¬ (e.lineMode = .pulse ∧ e.isEnabled f = true) := fun hp =>
        h ⟨hp.1, f, by simpa using hf, hp.2, by simp [EventUnit.raise_isSet]⟩
      simp [EventUnit.raise, hf, hn]

theorem EventUnit.onlyRaised_refl (e : EventUnit) : e.onlyRaised e :=
  ⟨fun _ h => h, rfl, rfl, rfl, rfl, fun ⟨_, _, hf, _, hs⟩ => by simp [hf] at hs, fun _ => rfl⟩

/-- Raising causes one after another is raising causes. -/
theorem EventUnit.onlyRaised_trans {a b c : EventUnit} (h : a.onlyRaised b) (g : b.onlyRaised c) : a.onlyRaised c := by
  obtain ⟨hs, hm, hl, hc, hn, hp, hk⟩ := h
  obtain ⟨gs, gm, gl, gc, gn, gp, gk⟩ := g
  refine ⟨fun f hf => gs f (hs f hf), gm.trans hm, gl.trans hl, gc.trans hc, gn.trans hn, ?_, ?_⟩
  · rintro ⟨hpulse, f, hf, he, hcf⟩
    by_cases hb : b.lineMode = .pulse ∧ ∃ x : Flag, b.isSet x = false ∧ b.isEnabled x = true ∧ c.isSet x = true
    · exact gp hb
    · rw [gk hb]
      refine hp ⟨hpulse, f, hf, he, ?_⟩
      by_contra hbf
      exact hb ⟨hl.trans hpulse, f, by simpa using hbf, by simpa [EventUnit.isEnabled, hm] using he, hcf⟩
  · intro hno
    rw [gk, hk]
    · rintro ⟨hpulse, f, hf, he, hbf⟩
      exact hno ⟨hpulse, f, hf, he, gs f hbf⟩
    · rintro ⟨hpulse, f, hf, he, hcf⟩
      refine hno ⟨hl.symm.trans hpulse, f, ?_, by simpa [EventUnit.isEnabled, hm] using he, hcf⟩
      by_contra haf
      simp [hs f (by simpa using haf)] at hf

/-- A pulse is at most two cycles long after a cause if it was before (R181). -/
theorem EventUnit.raise_pulseLeft_le {e : EventUnit} (f : Flag) (h : e.pulseLeft ≤ pulseCycles) : (e.raise f).pulseLeft ≤ pulseCycles := by
  unfold EventUnit.raise
  split
  · exact h
  · dsimp only
    split
    · exact Nat.le_refl _
    · exact h

/-! ### Pins and presence -/

theorem State.pinned_iff {s : State} {i : InputId} {j : SlotId} : s.pinned i j = true ↔ ∃ k : ScreenId, s.pins k i j = true := by
  simp [State.pinned]

/-- A new presence: only the record of the input and the event unit change, the changed mark only on entering or leaving PRESENT
(R105). -/
theorem State.setPresence_inputs (s : State) (i : InputId) (p : Presence) :
    (s.setPresence i p).inputs = s.inputs.set i
      { s.inputs[i] with
        presence := p
        changed := if s.inputs[i].presence.isPresent = p.isPresent then s.inputs[i].changed else true } := by
  unfold State.setPresence
  by_cases h : s.inputs[i].presence.isPresent = p.isPresent
  · rw [if_pos h]
    simp only [if_pos h]
    rfl
  · rw [if_neg h]
    simp only [if_neg h]
    simp [State.presenceChanged]

theorem State.setPresence_events (s : State) (i : InputId) (p : Presence) :
    (s.setPresence i p).events =
      if s.inputs[i].presence.isPresent ≠ p.isPresent ∧ s.inputs[i].eventEnable = true then s.events.raise .input else s.events := by
  unfold State.setPresence
  by_cases h : s.inputs[i].presence.isPresent = p.isPresent
  · rw [if_pos h, if_neg (fun c => c.1 h)]
    rfl
  · rw [if_neg h]
    by_cases he : s.inputs[i].eventEnable = true
    · rw [if_pos ⟨h, he⟩]
      simp only [Fin.getElem_fin] at he
      simp [State.presenceChanged, he]
    · rw [if_neg (fun c => he c.2)]
      simp only [Fin.getElem_fin] at he
      simp [State.presenceChanged, he]

@[simp] theorem State.setPresence_windows (s : State) (i : InputId) (p : Presence) : (s.setPresence i p).windows = s.windows := by
  unfold State.setPresence; split <;> simp [State.presenceChanged]
@[simp] theorem State.setPresence_stages (s : State) (i : InputId) (p : Presence) : (s.setPresence i p).stages = s.stages := by
  unfold State.setPresence; split <;> simp [State.presenceChanged]
@[simp] theorem State.setPresence_screens (s : State) (i : InputId) (p : Presence) : (s.setPresence i p).screens = s.screens := by
  unfold State.setPresence; split <;> simp [State.presenceChanged]
@[simp] theorem State.setPresence_pending (s : State) (i : InputId) (p : Presence) : (s.setPresence i p).pending = s.pending := by
  unfold State.setPresence; split <;> simp [State.presenceChanged]

/-! ### The order of a scan tick -/

/-- Folding "append unless already there" over a list keeps the list without repeats and collects the members of both. -/
theorem foldl_appendNew {α : Type} [DecidableEq α] (l done : List α) (h : done.Nodup) :
    (l.foldl (fun d p => if d.contains p then d else d ++ [p]) done).Nodup ∧
      ∀ x, x ∈ l.foldl (fun d p => if d.contains p then d else d ++ [p]) done ↔ x ∈ done ∨ x ∈ l := by
  induction l generalizing done with
  | nil => simp [h]
  | cons a l ih =>
    simp only [List.foldl_cons, List.contains_iff_mem]
    split
    · rename_i ha
      obtain ⟨h1, h2⟩ := ih done h
      simp only [List.contains_iff_mem] at h1 h2
      refine ⟨h1, fun x => ?_⟩
      rw [h2]
      constructor
      · rintro (hx | hx)
        · exact Or.inl hx
        · exact Or.inr (List.mem_cons_of_mem _ hx)
      · rintro (hx | hx)
        · exact Or.inl hx
        · rcases List.mem_cons.mp hx with rfl | hx
          · exact Or.inl ha
          · exact Or.inr hx
    · rename_i ha
      obtain ⟨h1, h2⟩ := ih (done ++ [a]) (by
        rw [List.nodup_append]
        refine ⟨h, by simp, ?_⟩
        intro x hx y hy
        rintro rfl
        simp at hy
        exact ha (hy ▸ hx))
      simp only [List.contains_iff_mem] at h1 h2
      refine ⟨h1, fun x => ?_⟩
      rw [h2]
      simp only [List.mem_append, List.mem_cons, List.not_mem_nil, or_false]
      exact or_assoc

/-- Every event of a scan tick comes about once, whatever order is asked for (R132, R133; log 5). -/
theorem tickOrder_complete (first : List TickPart) : (tickOrder first).Nodup ∧ ∀ p : TickPart, p ∈ tickOrder first := by
  obtain ⟨h1, h2⟩ := foldl_appendNew (first ++ TickPart.all) [] List.nodup_nil
  refine ⟨h1, fun p => (h2 p).mpr (Or.inr (List.mem_append_right _ ?_))⟩
  cases p with
  | loss i => simp [TickPart.all]
  | key k => simp [TickPart.all]
  | dwell => simp [TickPart.all]

end Sys2Proof.Machine
end

