-- ==== Sys2Proof/Laws/Pixels.lean ====
section
/-! SUPPORT. The contents of a slot: the one form reads as what it was made of, a pixel of a frame that was stored is read back and every
other pixel reads as before (R99, R108), and storing keeps the one form and its bounds. -/

namespace Sys2Proof.Machine

/-- The value read in a row. -/
def rowPixel (l : List Colour) (column : Nat) : Colour := l[column]?.getD blankPixel

@[simp] theorem rowPixel_nil (column : Nat) : rowPixel [] column = blankPixel := rfl
@[simp] theorem rowPixel_zero (p : Colour) (l : List Colour) : rowPixel (p :: l) 0 = p := rfl
@[simp] theorem rowPixel_succ (p : Colour) (l : List Colour) (n : Nat) : rowPixel (p :: l) (n + 1) = rowPixel l n := rfl

@[simp] theorem pixelAt_nil (column row : Nat) : pixelAt [] column row = blankPixel := rfl
@[simp] theorem pixelAt_zero (l : List Colour) (ls : Pixels) (column : Nat) : pixelAt (l :: ls) column 0 = rowPixel l column := rfl
@[simp] theorem pixelAt_succ (l : List Colour) (ls : Pixels) (column row : Nat) :
    pixelAt (l :: ls) column (row + 1) = pixelAt ls column row := rfl

/-! ### Reading -/

/-- The blank pixels at the end of a row are read whether or not the row lists them. -/
theorem rowPixel_trimRow (l : List Colour) (column : Nat) : rowPixel (trimRow l) column = rowPixel l column := by
  induction l generalizing column with
  | nil => rfl
  | cons p ps ih =>
    unfold trimRow
    split
    · rename_i h
      rw [h] at ih
      by_cases hp : p = blankPixel
      · cases column with
        | zero => simp [hp]
        | succ n => simpa [hp] using ih n
      · cases column with
        | zero => simp [hp]
        | succ n => simpa [hp] using ih n
    · rename_i q qs h
      cases column with
      | zero => rfl
      | succ n => rw [rowPixel_succ, rowPixel_succ, ← h, ih]

theorem pixelAt_trimRows (ls : Pixels) (column row : Nat) : pixelAt (trimRows ls) column row = pixelAt ls column row := by
  induction ls generalizing row with
  | nil => rfl
  | cons l ls ih =>
    unfold trimRows
    split
    · rename_i h
      rw [h] at ih
      split
      · rename_i hl
        cases row with
        | zero => rw [pixelAt_nil, pixelAt_zero, ← rowPixel_trimRow, hl]; rfl
        | succ n => simpa using ih n
      · cases row with
        | zero => simp [rowPixel_trimRow]
        | succ n => simpa using ih n
    · rename_i m ms h
      cases row with
      | zero => simp [rowPixel_trimRow]
      | succ n => rw [pixelAt_succ, pixelAt_succ, ← h, ih]

theorem rowPixel_overlayRow (new old : List Colour) (column : Nat) :
    rowPixel (overlayRow new old) column = new[column]?.getD (rowPixel old column) := by
  unfold rowPixel overlayRow
  by_cases h : column < new.length
  · rw [List.getElem?_append_left h]
    simp [h]
  · have h' : new.length ≤ column := by omega
    rw [List.getElem?_append_right h', List.getElem?_drop, List.getElem?_eq_none h']
    simp [Nat.add_sub_cancel' h']

theorem pixelAt_overlay (new old : Pixels) (column row : Nat) :
    pixelAt (overlay new old) column row = (new[row]?.getD [])[column]?.getD (pixelAt old column row) := by
  induction new generalizing old row with
  | nil => simp [overlay]
  | cons n ns ih =>
    cases old with
    | nil =>
      cases row with
      | zero => simp [overlay, rowPixel]
      | succ r => simp [overlay, pixelAt]
    | cons o os =>
      cases row with
      | zero => simp [overlay, rowPixel_overlayRow]
      | succ r => simp [overlay, ih]

/-- A pixel that the new frame has is read back; every other one reads as before (R99, R108). -/
theorem pixelAt_storePixels (old new : Pixels) (column row : Nat) :
    pixelAt (storePixels old new) column row = (new[row]?.getD [])[column]?.getD (pixelAt old column row) := by
  rw [storePixels, pixelAt_trimRows, pixelAt_overlay]

/-! ### The one form -/

theorem trimRow_length_le (l : List Colour) : (trimRow l).length ≤ l.length := by
  induction l with
  | nil => exact Nat.le_refl _
  | cons p ps ih =>
    unfold trimRow
    split
    · split <;> simp
    · rename_i q qs h
      rw [h] at ih
      simp only [List.length_cons] at ih ⊢
      omega

theorem trimRow_getLast (l : List Colour) : (trimRow l).getLast? ≠ some blankPixel := by
  induction l with
  | nil => simp [trimRow]
  | cons p ps ih =>
    unfold trimRow
    split
    · split <;> simp_all
    · rename_i q qs h
      rw [h] at ih
      simpa using ih

theorem trimRows_length_le (ls : Pixels) : (trimRows ls).length ≤ ls.length := by
  induction ls with
  | nil => exact Nat.le_refl _
  | cons l ls ih =>
    unfold trimRows
    split
    · split <;> simp
    · rename_i m ms h
      rw [h] at ih
      simp only [List.length_cons] at ih ⊢
      omega

theorem trimRows_getLast (ls : Pixels) : (trimRows ls).getLast? ≠ some [] := by
  induction ls with
  | nil => simp [trimRows]
  | cons l ls ih =>
    unfold trimRows
    split
    · split <;> simp_all
    · rename_i m ms h
      rw [h] at ih
      simpa using ih

/-- Every row of the one form is a trimmed row. -/
theorem mem_trimRows {ls : Pixels} {r : List Colour} (h : r ∈ trimRows ls) : ∃ l ∈ ls, r = trimRow l := by
  induction ls with
  | nil => simp [trimRows] at h
  | cons l ls ih =>
    unfold trimRows at h
    split at h
    · split at h
      · simp at h
      · exact ⟨l, by simp, by simpa using h⟩
    · rename_i m ms hm
      rcases List.mem_cons.mp h with h | h
      · exact ⟨l, by simp, h⟩
      · obtain ⟨x, hx, e⟩ := ih (by rw [hm]; exact h)
        exact ⟨x, List.mem_cons_of_mem _ hx, e⟩

theorem overlay_length (new old : Pixels) : (overlay new old).length = max new.length old.length := by
  induction new generalizing old with
  | nil => simp [overlay]
  | cons n ns ih => cases old with
    | nil => simp [overlay]
    | cons o os => simp [overlay, ih, Nat.succ_max_succ]

theorem mem_overlay {new old : Pixels} {r : List Colour} (h : r ∈ overlay new old) :
    r ∈ new ∨ r ∈ old ∨ ∃ n ∈ new, ∃ o ∈ old, r = overlayRow n o := by
  induction new generalizing old with
  | nil => exact Or.inr (Or.inl (by simpa [overlay] using h))
  | cons n ns ih =>
    cases old with
    | nil => exact Or.inl (by simpa [overlay] using h)
    | cons o os =>
      rcases List.mem_cons.mp (by simpa [overlay] using h) with h | h
      · exact Or.inr (Or.inr ⟨n, by simp, o, by simp, h⟩)
      · rcases ih h with h | h | ⟨a, ha, b, hb, e⟩
        · exact Or.inl (List.mem_cons_of_mem _ h)
        · exact Or.inr (Or.inl (List.mem_cons_of_mem _ h))
        · exact Or.inr (Or.inr ⟨a, List.mem_cons_of_mem _ ha, b, List.mem_cons_of_mem _ hb, e⟩)

/-- Contents in their one form keep it when a frame of at most 1920 columns and 1080 rows is stored (R99, R106). -/
theorem pixelsWf_storePixels {old new : Pixels} (h : pixelsWf old = true) (rows : new.length ≤ Config.maxFrameHeight)
    (columns : ∀ l ∈ new, l.length ≤ Config.maxFrameWidth) : pixelsWf (storePixels old new) = true := by
  unfold pixelsWf rowWf at *
  simp only [Bool.and_eq_true, decide_eq_true_eq, List.all_eq_true] at *
  obtain ⟨⟨hrows, _⟩, hold⟩ := h
  refine ⟨⟨?_, trimRows_getLast _⟩, ?_⟩
  · refine Nat.le_trans (trimRows_length_le _) ?_
    rw [overlay_length]
    exact Nat.max_le.mpr ⟨rows, hrows⟩
  · intro r hr
    obtain ⟨l, hl, rfl⟩ := mem_trimRows hr
    refine ⟨Nat.le_trans (trimRow_length_le l) ?_, trimRow_getLast l⟩
    rcases mem_overlay hl with hl | hl | ⟨n, hn, o, ho, rfl⟩
    · exact columns l hl
    · exact (hold l hl).1
    · have := columns n hn
      have := (hold o ho).1
      unfold overlayRow
      simp only [List.length_append, List.length_drop]
      omega

/-- What the writer stores of a frame has at most 1080 rows of at most 1920 columns (R99). -/
theorem stored_bounds (f : FeedFrame) :
    f.stored.length ≤ Config.maxFrameHeight ∧ ∀ l ∈ f.stored, l.length ≤ Config.maxFrameWidth := by
  unfold FeedFrame.stored
  refine ⟨by simp only [List.length_map, List.length_take]; omega, fun l hl => ?_⟩
  obtain ⟨m, _, rfl⟩ := List.mem_map.mp hl
  simp only [List.length_take]
  omega

end Sys2Proof.Machine
end

