-- ==== Sys2Proof/Laws/Port.lean ====
section
/-! SUPPORT. What a command of the control port does, said once: a command neither reads nor changes the port and the queue; a whole
command shifted in at the start of a transaction is taken at its last byte and answered (R169, R170). -/

namespace Sys2Proof.Machine

/-! ### A command does not see the port or the queue -/

/-- The state with another port and another queue. -/
def State.reframe (s : State) (p : Port) (q : List Instr) : State := { s with port := p, pending := q }

/-- The answer with another port and another queue. -/
def Answer.reframe (a : Answer) (p : Port) (q : List Instr) : Answer := { a with after := a.after.reframe p q }

@[simp] theorem State.reframe_startup (s : State) (p : Port) (q : List Instr) : (s.reframe p q).startup = s.startup := rfl
@[simp] theorem State.reframe_windows (s : State) (p : Port) (q : List Instr) : (s.reframe p q).windows = s.windows := rfl
@[simp] theorem State.reframe_stages (s : State) (p : Port) (q : List Instr) : (s.reframe p q).stages = s.stages := rfl
@[simp] theorem State.reframe_expirySetting (s : State) (p : Port) (q : List Instr) : (s.reframe p q).expirySetting = s.expirySetting := rfl
@[simp] theorem State.reframe_screens (s : State) (p : Port) (q : List Instr) : (s.reframe p q).screens = s.screens := rfl
@[simp] theorem State.reframe_inputs (s : State) (p : Port) (q : List Instr) : (s.reframe p q).inputs = s.inputs := rfl
@[simp] theorem State.reframe_lossTimeout (s : State) (p : Port) (q : List Instr) : (s.reframe p q).lossTimeout = s.lossTimeout := rfl
@[simp] theorem State.reframe_timebase (s : State) (p : Port) (q : List Instr) : (s.reframe p q).timebase = s.timebase := rfl
@[simp] theorem State.reframe_carousels (s : State) (p : Port) (q : List Instr) : (s.reframe p q).carousels = s.carousels := rfl
@[simp] theorem State.reframe_scenes (s : State) (p : Port) (q : List Instr) : (s.reframe p q).scenes = s.scenes := rfl
@[simp] theorem State.reframe_keys (s : State) (p : Port) (q : List Instr) : (s.reframe p q).keys = s.keys := rfl
@[simp] theorem State.reframe_keyLines (s : State) (p : Port) (q : List Instr) : (s.reframe p q).keyLines = s.keyLines := rfl
@[simp] theorem State.reframe_events (s : State) (p : Port) (q : List Instr) : (s.reframe p q).events = s.events := rfl
@[simp] theorem State.reframe_port (s : State) (p : Port) (q : List Instr) : (s.reframe p q).port = p := rfl
@[simp] theorem State.reframe_pending (s : State) (p : Port) (q : List Instr) : (s.reframe p q).pending = q := rfl
@[simp] theorem State.reframe_self (s : State) : s.reframe s.port s.pending = s := rfl
@[simp] theorem State.reframe_setWindow (s : State) (p : Port) (q : List Instr) (h : Handle) (w : Window) :
    (s.reframe p q).setWindow h w = (s.setWindow h w).reframe p q := rfl
@[simp] theorem State.reframe_setStage (s : State) (p : Port) (q : List Instr) (k : ScreenId) (g : Stage) :
    (s.reframe p q).setStage k g = (s.setStage k g).reframe p q := rfl
@[simp] theorem State.reframe_setScreen (s : State) (p : Port) (q : List Instr) (k : ScreenId) (c : Screen) :
    (s.reframe p q).setScreen k c = (s.setScreen k c).reframe p q := rfl
@[simp] theorem State.reframe_setInput (s : State) (p : Port) (q : List Instr) (i : InputId) (p' : Input) :
    (s.reframe p q).setInput i p' = (s.setInput i p').reframe p q := rfl
@[simp] theorem State.reframe_setCarousel (s : State) (p : Port) (q : List Instr) (c : CarouselId) (r : Carousel) :
    (s.reframe p q).setCarousel c r = (s.setCarousel c r).reframe p q := rfl
@[simp] theorem State.reframe_setScene (s : State) (p : Port) (q : List Instr) (n : SceneId) (r : Scene) :
    (s.reframe p q).setScene n r = (s.setScene n r).reframe p q := rfl
@[simp] theorem State.reframe_setKey (s : State) (p : Port) (q : List Instr) (k : KeyId) (r : Key) :
    (s.reframe p q).setKey k r = (s.setKey k r).reframe p q := rfl
@[simp] theorem refuse_reframe (s : State) (p : Port) (q : List Instr) (c : ResultCode) :
    refuse c (s.reframe p q) = (refuse c s).reframe p q := rfl
@[simp] theorem reply_reframe (s : State) (p : Port) (q : List Instr) (l : List Byte) :
    reply l (s.reframe p q) = (reply l s).reframe p q := rfl
@[simp] theorem State.edited_reframe (s : State) (p : Port) (q : List Instr) (a : Party) (k : ScreenId) :
    (s.reframe p q).edited a k = (s.edited a k).reframe p q := rfl
@[simp] theorem State.discardStage_reframe (s : State) (p : Port) (q : List Instr) (k : ScreenId) :
    (s.reframe p q).discardStage k = (s.discardStage k).reframe p q := rfl
@[simp] theorem State.lowestFree_reframe (s : State) (p : Port) (q : List Instr) : (s.reframe p q).lowestFree = s.lowestFree := rfl
@[simp] theorem State.raise_reframe (s : State) (p : Port) (q : List Instr) (x : Flag) :
    (s.reframe p q).raise x = (s.raise x).reframe p q := rfl
@[simp] theorem State.raiseIf_reframe (s : State) (p : Port) (q : List Instr) (b : Bool) (x : Flag) :
    (s.reframe p q).raiseIf b x = (s.raiseIf b x).reframe p q := by cases b <;> rfl
@[simp] theorem State.stopScreen_reframe (s : State) (p : Port) (q : List Instr) (k : ScreenId) :
    (s.reframe p q).stopScreen k = (s.stopScreen k).reframe p q := by
  exact State.raiseIf_reframe
    (({ s with windows := mapTable (fun _ w => if w.belongsTo k then w.endTransition else w) s.windows } : State).setScreen k
      s.screens[k].stop) p q _ _
@[simp] theorem State.advanceCarousel_reframe (s : State) (p : Port) (q : List Instr) (k : CarouselId) :
    (s.reframe p q).advanceCarousel k = (s.advanceCarousel k).reframe p q := by
  unfold State.advanceCarousel
  cases h : (advanceChain s.inputPresent chainFuel k s.carousels).2 <;>
    simp only [show (s.reframe p q).inputPresent = s.inputPresent from rfl, State.reframe_carousels, h] <;> rfl
@[simp] theorem State.placeEntry_reframe (s : State) (p : Port) (q : List Instr) (f : WindowFields) :
    (s.reframe p q).placeEntry f = (s.placeEntry f).reframe p q := by
  unfold State.placeEntry
  rw [State.lowestFree_reframe]
  split <;> rfl
theorem foldl_reframe {α : Type} (f : State → α → State) (hf : ∀ s x p q, f (s.reframe p q) x = (f s x).reframe p q)
    (l : List α) (s : State) (p : Port) (q : List Instr) : l.foldl f (s.reframe p q) = (l.foldl f s).reframe p q := by
  induction l generalizing s with
  | nil => rfl
  | cons x l ih => simp [hf, ih]
@[simp] theorem State.recallScreen_reframe (s : State) (p : Port) (q : List Instr) (a : Party) (l : List WindowFields) (k : ScreenId) :
    (s.reframe p q).recallScreen a l k = (s.recallScreen a l k).reframe p q := by
  unfold State.recallScreen
  rw [← State.reframe_setStage, ← foldl_reframe State.placeEntry (fun s f p q => State.placeEntry_reframe s p q f)]
  rfl

theorem ite_reframe {c : Prop} {d e : Decidable c} {a b x y : Answer} {p : Port} {q : List Instr}
    (hx : a = x.reframe p q) (hy : b = y.reframe p q) : @ite _ c d a b = (@ite _ c e x y).reframe p q := by
  by_cases h : c
  · rw [if_pos h, if_pos h, hx]
  · rw [if_neg h, if_neg h, hy]

theorem placeWindow_reframe (args : List Byte) (s : State) (p : Port) (q : List Instr) :
    placeWindow args (s.reframe p q) = (placeWindow args s).reframe p q := by
  unfold placeWindow
  simp only [State.lowestFree_reframe]
  dsimp only [State.reframe]
  repeat' split
  all_goals rfl
theorem amendWindow_reframe (args : List Byte) (s : State) (p : Port) (q : List Instr) :
    amendWindow args (s.reframe p q) = (amendWindow args s).reframe p q := by
  unfold amendWindow
  dsimp only [State.reframe]
  repeat' split
  all_goals rfl
theorem retireWindow_reframe (args : List Byte) (s : State) (p : Port) (q : List Instr) :
    retireWindow args (s.reframe p q) = (retireWindow args s).reframe p q := by
  unfold retireWindow
  dsimp only [State.reframe]
  repeat' split
  all_goals rfl
theorem sealStage_reframe (args : List Byte) (s : State) (p : Port) (q : List Instr) :
    sealStage args (s.reframe p q) = (sealStage args s).reframe p q := by
  unfold sealStage
  cases ident 8 (arg args 0) with
  | none => rfl
  | some k =>
    refine ite_reframe rfl ?_
    dsimp only [State.reframe]
    rcases s.stages[k] with _ | ⟨_ | _, _⟩ | _ <;> rfl
theorem discardStage_reframe (args : List Byte) (s : State) (p : Port) (q : List Instr) :
    discardStage args (s.reframe p q) = (discardStage args s).reframe p q := by
  unfold discardStage
  dsimp only [State.reframe]
  repeat' split
  all_goals rfl
theorem configureScreen_reframe (args : List Byte) (s : State) (p : Port) (q : List Instr) :
    configureScreen args (s.reframe p q) = (configureScreen args s).reframe p q := by
  unfold configureScreen
  cases ident 8 (arg args 0) with
  | none => rfl
  | some k =>
    cases formatOf (arg args 1) with
    | none => rfl
    | some format =>
      cases rateOf (arg args 2) with
      | none => rfl
      | some rate =>
        cases yesNo (arg args 7) with
        | none => rfl
        | some lock => exact ite_reframe rfl rfl
theorem startScreen_reframe (args : List Byte) (s : State) (p : Port) (q : List Instr) :
    startScreen args (s.reframe p q) = (startScreen args s).reframe p q := by
  unfold startScreen
  cases ident 8 (arg args 0) with
  | none => rfl
  | some k => exact ite_reframe rfl rfl
theorem stopScreen_reframe (args : List Byte) (s : State) (p : Port) (q : List Instr) :
    stopScreen args (s.reframe p q) = (stopScreen args s).reframe p q := by
  unfold stopScreen
  cases ident 8 (arg args 0) with
  | none => rfl
  | some k => exact ite_reframe rfl (congrArg (reply []) (State.stopScreen_reframe s p q k))
theorem probePoint_reframe (args : List Byte) (s : State) (p : Port) (q : List Instr) :
    probePoint args (s.reframe p q) = (probePoint args s).reframe p q := by
  unfold probePoint
  cases ident 8 (arg args 0) with
  | none => rfl
  | some k => exact ite_reframe (ite_reframe rfl (ite_reframe rfl rfl)) rfl
theorem probeResult_reframe (args : List Byte) (s : State) (p : Port) (q : List Instr) :
    probeResult args (s.reframe p q) = (probeResult args s).reframe p q := by
  unfold probeResult
  dsimp only [State.reframe]
  repeat' split
  all_goals rfl
theorem setCarousel_reframe (args : List Byte) (s : State) (p : Port) (q : List Instr) :
    setCarousel args (s.reframe p q) = (setCarousel args s).reframe p q := by
  unfold setCarousel
  cases ident 16 (arg args 0) with
  | none => rfl
  | some n =>
    dsimp only
    rcases carouselModeOf (arg args 1) with _ | mode <;> rcases yesNo (arg args 2) with _ | skip <;>
      rcases clockOf (arg args 3) with _ | code <;> try rfl
    dsimp only
    rcases clockWith code (arg args 4) with _ | clock
    · rfl
    · refine ite_reframe rfl ?_
      rcases entriesOf (args.drop 6) (num args 5) with _ | entries
      · rfl
      · exact ite_reframe rfl (ite_reframe rfl rfl)
theorem State.startCarousel_reframe (s : State) (p : Port) (q : List Instr) (c : CarouselId) :
    (s.reframe p q).startCarousel c = (s.startCarousel c).reframe p q := ite_reframe rfl rfl
theorem State.stepCarousel_reframe (s : State) (p : Port) (q : List Instr) (c : CarouselId) :
    (s.reframe p q).stepCarousel c = (s.stepCarousel c).reframe p q :=
  ite_reframe rfl (ite_reframe rfl (congrArg (reply []) (State.advanceCarousel_reframe s p q c)))
theorem startCarousel_reframe (args : List Byte) (s : State) (p : Port) (q : List Instr) :
    startCarousel args (s.reframe p q) = (startCarousel args s).reframe p q := by
  unfold startCarousel
  cases ident 16 (arg args 0) with
  | none => rfl
  | some c => exact State.startCarousel_reframe s p q c
theorem stepCarousel_reframe (args : List Byte) (s : State) (p : Port) (q : List Instr) :
    stepCarousel args (s.reframe p q) = (stepCarousel args s).reframe p q := by
  unfold stepCarousel
  cases ident 16 (arg args 0) with
  | none => rfl
  | some c => exact State.stepCarousel_reframe s p q c
theorem captureScene_reframe (args : List Byte) (s : State) (p : Port) (q : List Instr) :
    captureScene args (s.reframe p q) = (captureScene args s).reframe p q := by
  unfold captureScene
  cases ident 16 (arg args 0) with
  | none => rfl
  | some n => exact ite_reframe rfl rfl

/-- A recall does not see or change the port or the queue. -/
theorem State.recall_reframe (s : State) (p : Port) (q : List Instr) (a : Party) (n : SceneId) :
    (s.reframe p q).recall a n =
      match s.recall a n with
      | .error code => .error code
      | .ok r => .ok { r with after := r.after.reframe p q } := by
  have f : ∀ l : List ScreenId,
      l.foldl (fun t k => t.recallScreen a s.scenes[n].entries k) (s.reframe p q) =
        (l.foldl (fun t k => t.recallScreen a s.scenes[n].entries k) s).reframe p q :=
    fun l => foldl_reframe (fun t k => t.recallScreen a s.scenes[n].entries k)
      (fun t k p q => State.recallScreen_reframe t p q a s.scenes[n].entries k) l s p q
  unfold State.recall
  simp only [State.reframe_scenes, show (s.reframe p q).freeCount = s.freeCount from rfl,
    show (s.reframe p q).applicable = s.applicable from rfl, show (s.reframe p q).marked = s.marked from rfl, f]
  split
  · rfl
  · split
    · rfl
    · split <;> rfl

theorem recallScene_reframe (args : List Byte) (s : State) (p : Port) (q : List Instr) :
    recallScene args (s.reframe p q) = (recallScene args s).reframe p q := by
  unfold recallScene
  cases ident 16 (arg args 0) with
  | none => rfl
  | some n =>
    dsimp only
    rw [State.recall_reframe]
    cases s.recall .link n <;> rfl
theorem readEvents_reframe (s : State) (p : Port) (q : List Instr) : readEvents (s.reframe p q) = (readEvents s).reframe p q := by
  unfold readEvents
  dsimp only [State.reframe]
  rcases s.events.clearMode <;> rfl
theorem readWindow_reframe (args : List Byte) (s : State) (p : Port) (q : List Instr) :
    readWindow args (s.reframe p q) = (readWindow args s).reframe p q := by
  unfold readWindow
  cases ident 64 (arg args 0) with
  | none => rfl
  | some h => exact ite_reframe rfl (ite_reframe rfl rfl)

/-- No command sees or changes the port or the queue. -/
theorem runCommand_reframe (op : Opcode) (args : List Byte) (s : State) (p : Port) (q : List Instr) :
    runCommand op args (s.reframe p q) = (runCommand op args s).reframe p q := by
  cases op
  case placeWindow => exact placeWindow_reframe args s p q
  case amendWindow => exact amendWindow_reframe args s p q
  case retireWindow => exact retireWindow_reframe args s p q
  case readWindow => exact readWindow_reframe args s p q
  case sealStage => exact sealStage_reframe args s p q
  case discardStage => exact discardStage_reframe args s p q
  case configureScreen => exact configureScreen_reframe args s p q
  case startScreen => exact startScreen_reframe args s p q
  case stopScreen => exact stopScreen_reframe args s p q
  case probePoint => exact probePoint_reframe args s p q
  case probeResult => exact probeResult_reframe args s p q
  case setCarousel => exact setCarousel_reframe args s p q
  case startCarousel => exact startCarousel_reframe args s p q
  case stepCarousel => exact stepCarousel_reframe args s p q
  case captureScene => exact captureScene_reframe args s p q
  case recallScene => exact recallScene_reframe args s p q
  case readEvents => exact readEvents_reframe s p q
  all_goals first
    | rfl
    | (simp only [runCommand, listScreen, readStage, readScreen, readInput, stopCarousel, readCarousel, storeScene, clearScene,
        readScene, bindKey, setEventControl]
       repeat' split
       all_goals rfl)

/-- A command taken sees the readiness, but neither the port nor the queue. -/
theorem takeCommand_reframe (op : Opcode) (args : List Byte) (s : State) (p : Port) (q : List Instr) :
    takeCommand op args (s.reframe p q) = (takeCommand op args s).reframe p q :=
  ite_reframe (runCommand_reframe op args s p q) rfl

/-- A command leaves the port to the transaction. -/
theorem takeCommand_port (op : Opcode) (args : List Byte) (s : State) : (takeCommand op args s).after.port = s.port := by
  have h := takeCommand_reframe op args s s.port s.pending
  rw [State.reframe_self] at h
  exact congrArg (fun a => a.after.port) h

/-- A command leaves the queue as it is. -/
theorem takeCommand_pending (op : Opcode) (args : List Byte) (s : State) : (takeCommand op args s).after.pending = s.pending := by
  have h := takeCommand_reframe op args s s.port s.pending
  rw [State.reframe_self] at h
  exact congrArg (fun a => a.after.pending) h

/-! ### A whole command shifted in -/

/-- Every opcode byte of the table names its command (R188). -/
theorem Opcode.ofByte?_code (op : Opcode) : Opcode.ofByte? op.code = some op := by cases op <;> decide

/-- The length of a command with a list is not known, or not reached, before its last byte. -/
theorem listLength_prefix {fixed size most : Nat} {args : List Byte} (_hf : 0 < fixed)
    (h : listLength fixed size most args = some args.length) {n : Nat} (hn : n < args.length) :
    ∀ m, listLength fixed size most (args.take n) = some m → n < m := by
  intro m hm
  unfold listLength at h hm
  rcases Nat.lt_or_ge (fixed - 1) n with hlt | hge
  · rw [List.getElem?_take_of_lt hlt] at hm
    rw [h] at hm
    cases hm
    exact hn
  · rw [List.getElem?_eq_none (by simp; omega)] at hm
    exact absurd hm (by simp)

/-- Before its last argument byte a command is not complete (R169, R188). -/
theorem Opcode.argumentCount_prefix {op : Opcode} {args : List Byte} (h : op.argumentCount args = some args.length) {n : Nat}
    (hn : n < args.length) : ∀ m, op.argumentCount (args.take n) = some m → n < m := by
  intro m hm
  cases op
  case setCarousel => exact listLength_prefix (by decide) h hn m hm
  case storeScene => exact listLength_prefix (by decide) h hn m hm
  all_goals
    simp only [Opcode.argumentCount, Option.some.injEq] at h hm
    omega

/-- A transaction cut before its last argument byte holds no command (R171). -/
theorem decodeBytes_prefix {op : Opcode} {args : List Byte} (h : op.argumentCount args = some args.length) {n : Nat}
    (hn : n < args.length) : decodeBytes (op.code :: args.take n) = .incomplete := by
  simp only [decodeBytes, Opcode.ofByte?_code]
  rcases hc : op.argumentCount (args.take n) with _ | m
  · rfl
  · have := Opcode.argumentCount_prefix h hn m hc
    simp only [List.length_take]
    rw [if_pos (by omega)]

/-- A whole command is decoded as itself (R169, R188). -/
theorem decodeBytes_whole {op : Opcode} {args : List Byte} (h : op.argumentCount args = some args.length) :
    decodeBytes (op.code :: args) = .command op args := by
  simp [decodeBytes, Opcode.ofByte?_code, h]

/-- The bytes of a command before its last one are received, 00h being shifted out for each (R170). -/
theorem bytesIn_prefix {op : Opcode} {args : List Byte} (h : op.argumentCount args = some args.length) {s : State}
    (hs : s.addressed) :
    ∀ n, n ≤ args.length → 0 < args.length →
      s.bytesIn ((op.code :: args).take n) =
        s.reframe ⟨.receiving, (op.code :: args).take n, s.port.response, s.port.dataOut ++ List.replicate n 0x00#8⟩ s.pending := by
  intro n hn h0
  induction n with
  | zero =>
    obtain ⟨hp, hr⟩ := hs
    simp only [List.take_zero, State.bytesIn, List.foldl_nil, List.replicate_zero, List.append_nil]
    rw [← hp, ← hr]
    rfl
  | succ n ih =>
    have hl : n < (op.code :: args).length := by simp; omega
    rw [List.take_succ_eq_append_getElem hl, State.bytesIn, List.foldl_append]
    have := ih (by omega)
    rw [State.bytesIn] at this
    rw [this]
    simp only [List.foldl_cons, List.foldl_nil, State.byteIn, State.reframe_port, State.receiveByte]
    rw [← List.take_succ_eq_append_getElem hl]
    have hd : decodeBytes (List.take (n + 1) (op.code :: args)) = .incomplete := by
      rw [List.take_succ_cons]
      exact decodeBytes_prefix h (by omega)
    rw [hd]
    simp only [State.reframe, List.replicate_succ', List.append_assoc]

/-- A WHOLE COMMAND at the start of a transaction: it is taken at its last byte, its effect is that of the command, and the port
holds its result code and its response fields (R169, R170). -/
theorem commandIn_whole {op : Opcode} {args : List Byte} (h : op.argumentCount args = some args.length) {s : State}
    (hs : s.addressed) :
    s.commandIn op args =
      (takeCommand op args s).after.answers args.length (takeCommand op args s).code (takeCommand op args s).fields := by
  have last : ∀ (p : Port) (b : Byte), p.phase = .receiving → p.received ++ [b] = op.code :: args →
      p.dataOut = s.port.dataOut ++ List.replicate args.length 0x00#8 →
      (s.reframe p s.pending).byteIn b =
        (takeCommand op args s).after.answers args.length (takeCommand op args s).code (takeCommand op args s).fields := by
    intro p b hp hr hd
    simp only [State.byteIn, State.reframe_port, hp, State.receiveByte, hr, decodeBytes_whole h, takeCommand_reframe]
    simp only [Answer.reframe, State.sendResponse, State.reframe, State.answers, takeCommand_port, hd, List.replicate_succ',
      List.append_assoc]
    rw [← takeCommand_pending op args s]
  rcases Nat.eq_zero_or_pos args.length with h0 | h0
  · obtain rfl := List.eq_nil_of_length_eq_zero h0
    have := last s.port op.code hs.1 (by rw [hs.2]; rfl) (by simp)
    simpa [State.commandIn, State.bytesIn] using this
  · have hne : args ≠ [] := List.ne_nil_of_length_pos h0
    have hsplit : op.code :: args = (op.code :: args).take args.length ++ [args.getLast hne] := by
      conv => lhs; rw [← List.dropLast_append_getLast (l := op.code :: args) (by simp)]
      rw [List.dropLast_eq_take, List.getLast_cons hne]
      simp
    have hb := bytesIn_prefix h hs args.length (Nat.le_refl _) h0
    rw [State.commandIn, State.bytesIn]
    conv => lhs; rw [hsplit]
    rw [List.foldl_append]
    rw [State.bytesIn] at hb
    rw [hb]
    exact last ⟨.receiving, (op.code :: args).take args.length, s.port.response,
      s.port.dataOut ++ List.replicate args.length 0x00#8⟩ (args.getLast hne) rfl hsplit.symm rfl

/-! ### The rows of the control port -/

/-- A row of the control port shifts in the bytes of its command. -/
theorem exec_instr (op : Opcode) (args : List Byte) (s : State) (ha : op.argumentCount args = some args.length) :
    exec (op.instr args) s = .next (s.commandIn op args) := by
  cases op
  case identify => exact congrArg _ (congrArg _ (List.eq_nil_of_length_eq_zero (by simpa [Opcode.argumentCount] using ha.symm)).symm)
  case resetLayout => exact congrArg _ (congrArg _ (List.eq_nil_of_length_eq_zero (by simpa [Opcode.argumentCount] using ha.symm)).symm)
  case readKeys => exact congrArg _ (congrArg _ (List.eq_nil_of_length_eq_zero (by simpa [Opcode.argumentCount] using ha.symm)).symm)
  case readEvents => exact congrArg _ (congrArg _ (List.eq_nil_of_length_eq_zero (by simpa [Opcode.argumentCount] using ha.symm)).symm)
  all_goals rfl

/-- THE LAW OF A COMMAND ROW at the start of a transaction: a whole command is answered, and its records are those the command
leaves. -/
theorem exec_command {op : Opcode} {args : List Byte} (h : op.argumentCount args = some args.length) {s : State} (hs : s.addressed) :
    exec (op.instr args) s =
      .next ((takeCommand op args s).after.answers args.length (takeCommand op args s).code (takeCommand op args s).fields) := by
  rw [exec_instr op args s h, commandIn_whole h hs]

/-- The same of a part that is ready. -/
theorem exec_listening {op : Opcode} {args : List Byte} (h : op.argumentCount args = some args.length) {s : State}
    (hs : s.listening) :
    exec (op.instr args) s =
      .next ((runCommand op args s).after.answers args.length (runCommand op args s).code (runCommand op args s).fields) := by
  rw [exec_command h hs.2]
  unfold takeCommand
  rw [if_pos hs.1]

/-- The form in which a command's answer is cited: what the command answers is what the row sends. -/
theorem exec_answers {op : Opcode} {args : List Byte} {s t : State} {code : ResultCode} {fields : List Byte}
    (h : op.argumentCount args = some args.length) (hs : s.listening) (ha : runCommand op args s = ⟨code, fields, t⟩) :
    exec (op.instr args) s = .next (t.answers args.length code fields) := by
  rw [exec_listening h hs, ha]

end Sys2Proof.Machine
end

