-- ==== Sys2Proof/Laws/Records.lean ====
section
/-! SUPPORT. What the events of inputs, stages, screens, carousels and keys do to the records, each said once: the fields an operation
keeps, the advance of a carousel (R143, R144), the cascade (R145), and the recall's and the key's reach (R156, R163). -/

namespace Sys2Proof.Machine

/-- What every step of a fold keeps, the fold keeps. -/
theorem foldl_keeps {α β : Type} (g : State → β) (f : State → α → State) (h : ∀ s x, g (f s x) = g s) (l : List α) (s : State) :
    g (l.foldl f s) = g s := by
  induction l generalizing s with
  | nil => rfl
  | cons x l ih => rw [List.foldl_cons, ih, h]

/-! ### Inputs (R100 to R104) -/

@[simp] theorem State.setPresence_startup (s : State) (i : InputId) (p : Presence) : (s.setPresence i p).startup = s.startup := by
  unfold State.setPresence State.presenceChanged; dsimp only; split <;> simp
@[simp] theorem State.setPresence_port (s : State) (i : InputId) (p : Presence) : (s.setPresence i p).port = s.port := by
  unfold State.setPresence State.presenceChanged; dsimp only; split <;> simp
@[simp] theorem State.setPresence_expirySetting (s : State) (i : InputId) (p : Presence) : (s.setPresence i p).expirySetting = s.expirySetting := by
  unfold State.setPresence State.presenceChanged; dsimp only; split <;> simp
@[simp] theorem State.setPresence_lossTimeout (s : State) (i : InputId) (p : Presence) : (s.setPresence i p).lossTimeout = s.lossTimeout := by
  unfold State.setPresence State.presenceChanged; dsimp only; split <;> simp
@[simp] theorem State.setPresence_timebase (s : State) (i : InputId) (p : Presence) : (s.setPresence i p).timebase = s.timebase := by
  unfold State.setPresence State.presenceChanged; dsimp only; split <;> simp
@[simp] theorem State.setPresence_carousels (s : State) (i : InputId) (p : Presence) : (s.setPresence i p).carousels = s.carousels := by
  unfold State.setPresence State.presenceChanged; dsimp only; split <;> simp
@[simp] theorem State.setPresence_scenes (s : State) (i : InputId) (p : Presence) : (s.setPresence i p).scenes = s.scenes := by
  unfold State.setPresence State.presenceChanged; dsimp only; split <;> simp
@[simp] theorem State.setPresence_keys (s : State) (i : InputId) (p : Presence) : (s.setPresence i p).keys = s.keys := by
  unfold State.setPresence State.presenceChanged; dsimp only; split <;> simp
@[simp] theorem State.setPresence_keyLines (s : State) (i : InputId) (p : Presence) : (s.setPresence i p).keyLines = s.keyLines := by
  unfold State.setPresence State.presenceChanged; dsimp only; split <;> simp

@[simp] theorem State.lossTick_pending (s : State) (i : InputId) : (s.lossTick i).pending = s.pending := by
  unfold State.lossTick; split <;> [rfl; (dsimp only; split <;> simp)]
@[simp] theorem State.lossTick_startup (s : State) (i : InputId) : (s.lossTick i).startup = s.startup := by
  unfold State.lossTick; split <;> [rfl; (dsimp only; split <;> simp)]
@[simp] theorem State.lossTick_port (s : State) (i : InputId) : (s.lossTick i).port = s.port := by
  unfold State.lossTick; split <;> [rfl; (dsimp only; split <;> simp)]
@[simp] theorem State.lossTick_windows (s : State) (i : InputId) : (s.lossTick i).windows = s.windows := by
  unfold State.lossTick; split <;> [rfl; (dsimp only; split <;> simp)]
@[simp] theorem State.lossTick_stages (s : State) (i : InputId) : (s.lossTick i).stages = s.stages := by
  unfold State.lossTick; split <;> [rfl; (dsimp only; split <;> simp)]
@[simp] theorem State.lossTick_expirySetting (s : State) (i : InputId) : (s.lossTick i).expirySetting = s.expirySetting := by
  unfold State.lossTick; split <;> [rfl; (dsimp only; split <;> simp)]
@[simp] theorem State.lossTick_screens (s : State) (i : InputId) : (s.lossTick i).screens = s.screens := by
  unfold State.lossTick; split <;> [rfl; (dsimp only; split <;> simp)]
@[simp] theorem State.lossTick_lossTimeout (s : State) (i : InputId) : (s.lossTick i).lossTimeout = s.lossTimeout := by
  unfold State.lossTick; split <;> [rfl; (dsimp only; split <;> simp)]
@[simp] theorem State.lossTick_timebase (s : State) (i : InputId) : (s.lossTick i).timebase = s.timebase := by
  unfold State.lossTick; split <;> [rfl; (dsimp only; split <;> simp)]
@[simp] theorem State.lossTick_carousels (s : State) (i : InputId) : (s.lossTick i).carousels = s.carousels := by
  unfold State.lossTick; split <;> [rfl; (dsimp only; split <;> simp)]
@[simp] theorem State.lossTick_scenes (s : State) (i : InputId) : (s.lossTick i).scenes = s.scenes := by
  unfold State.lossTick; split <;> [rfl; (dsimp only; split <;> simp)]
@[simp] theorem State.lossTick_keys (s : State) (i : InputId) : (s.lossTick i).keys = s.keys := by
  unfold State.lossTick; split <;> [rfl; (dsimp only; split <;> simp)]
@[simp] theorem State.lossTick_keyLines (s : State) (i : InputId) : (s.lossTick i).keyLines = s.keyLines := by
  unfold State.lossTick; split <;> [rfl; (dsimp only; split <;> simp)]

@[simp] theorem State.feedFrameStart_pending (s : State) (i : InputId) (f : FeedFrame) : (s.feedFrameStart i f).pending = s.pending := by
  unfold State.feedFrameStart; split <;> simp
@[simp] theorem State.feedFrameStart_startup (s : State) (i : InputId) (f : FeedFrame) : (s.feedFrameStart i f).startup = s.startup := by
  unfold State.feedFrameStart; split <;> simp
@[simp] theorem State.feedFrameStart_port (s : State) (i : InputId) (f : FeedFrame) : (s.feedFrameStart i f).port = s.port := by
  unfold State.feedFrameStart; split <;> simp
@[simp] theorem State.feedFrameStart_windows (s : State) (i : InputId) (f : FeedFrame) : (s.feedFrameStart i f).windows = s.windows := by
  unfold State.feedFrameStart; split <;> simp
@[simp] theorem State.feedFrameStart_stages (s : State) (i : InputId) (f : FeedFrame) : (s.feedFrameStart i f).stages = s.stages := by
  unfold State.feedFrameStart; split <;> simp
@[simp] theorem State.feedFrameStart_expirySetting (s : State) (i : InputId) (f : FeedFrame) : (s.feedFrameStart i f).expirySetting = s.expirySetting := by
  unfold State.feedFrameStart; split <;> simp
@[simp] theorem State.feedFrameStart_screens (s : State) (i : InputId) (f : FeedFrame) : (s.feedFrameStart i f).screens = s.screens := by
  unfold State.feedFrameStart; split <;> simp
@[simp] theorem State.feedFrameStart_lossTimeout (s : State) (i : InputId) (f : FeedFrame) : (s.feedFrameStart i f).lossTimeout = s.lossTimeout := by
  unfold State.feedFrameStart; split <;> simp
@[simp] theorem State.feedFrameStart_timebase (s : State) (i : InputId) (f : FeedFrame) : (s.feedFrameStart i f).timebase = s.timebase := by
  unfold State.feedFrameStart; split <;> simp
@[simp] theorem State.feedFrameStart_carousels (s : State) (i : InputId) (f : FeedFrame) : (s.feedFrameStart i f).carousels = s.carousels := by
  unfold State.feedFrameStart; split <;> simp
@[simp] theorem State.feedFrameStart_scenes (s : State) (i : InputId) (f : FeedFrame) : (s.feedFrameStart i f).scenes = s.scenes := by
  unfold State.feedFrameStart; split <;> simp
@[simp] theorem State.feedFrameStart_keys (s : State) (i : InputId) (f : FeedFrame) : (s.feedFrameStart i f).keys = s.keys := by
  unfold State.feedFrameStart; split <;> simp
@[simp] theorem State.feedFrameStart_keyLines (s : State) (i : InputId) (f : FeedFrame) : (s.feedFrameStart i f).keyLines = s.keyLines := by
  unfold State.feedFrameStart; split <;> simp

@[simp] theorem State.feedFrameEnd_pending (s : State) (i : InputId) (f : FeedFrame) : (s.feedFrameEnd i f).pending = s.pending := by
  unfold State.feedFrameEnd; split <;> simp
@[simp] theorem State.feedFrameEnd_startup (s : State) (i : InputId) (f : FeedFrame) : (s.feedFrameEnd i f).startup = s.startup := by
  unfold State.feedFrameEnd; split <;> simp
@[simp] theorem State.feedFrameEnd_port (s : State) (i : InputId) (f : FeedFrame) : (s.feedFrameEnd i f).port = s.port := by
  unfold State.feedFrameEnd; split <;> simp
@[simp] theorem State.feedFrameEnd_windows (s : State) (i : InputId) (f : FeedFrame) : (s.feedFrameEnd i f).windows = s.windows := by
  unfold State.feedFrameEnd; split <;> simp
@[simp] theorem State.feedFrameEnd_stages (s : State) (i : InputId) (f : FeedFrame) : (s.feedFrameEnd i f).stages = s.stages := by
  unfold State.feedFrameEnd; split <;> simp
@[simp] theorem State.feedFrameEnd_expirySetting (s : State) (i : InputId) (f : FeedFrame) : (s.feedFrameEnd i f).expirySetting = s.expirySetting := by
  unfold State.feedFrameEnd; split <;> simp
@[simp] theorem State.feedFrameEnd_screens (s : State) (i : InputId) (f : FeedFrame) : (s.feedFrameEnd i f).screens = s.screens := by
  unfold State.feedFrameEnd; split <;> simp
@[simp] theorem State.feedFrameEnd_lossTimeout (s : State) (i : InputId) (f : FeedFrame) : (s.feedFrameEnd i f).lossTimeout = s.lossTimeout := by
  unfold State.feedFrameEnd; split <;> simp
@[simp] theorem State.feedFrameEnd_timebase (s : State) (i : InputId) (f : FeedFrame) : (s.feedFrameEnd i f).timebase = s.timebase := by
  unfold State.feedFrameEnd; split <;> simp
@[simp] theorem State.feedFrameEnd_carousels (s : State) (i : InputId) (f : FeedFrame) : (s.feedFrameEnd i f).carousels = s.carousels := by
  unfold State.feedFrameEnd; split <;> simp
@[simp] theorem State.feedFrameEnd_scenes (s : State) (i : InputId) (f : FeedFrame) : (s.feedFrameEnd i f).scenes = s.scenes := by
  unfold State.feedFrameEnd; split <;> simp
@[simp] theorem State.feedFrameEnd_keys (s : State) (i : InputId) (f : FeedFrame) : (s.feedFrameEnd i f).keys = s.keys := by
  unfold State.feedFrameEnd; split <;> simp
@[simp] theorem State.feedFrameEnd_keyLines (s : State) (i : InputId) (f : FeedFrame) : (s.feedFrameEnd i f).keyLines = s.keyLines := by
  unfold State.feedFrameEnd; split <;> simp

/-! ### Stages and screens (R35, R84, R89, R90) -/

theorem expires_iff {setting count : Nat} : expires setting count = true ↔ setting ≠ 0 ∧ setting ≤ count ∧ count ≠ 1 := by
  simp [expires]

/-- An edit taken before a dwell tick keeps its stage at it (R16, R36; log 23). -/
theorem State.stageTick_edited {s : State} {k : ScreenId} (h : s.stages[k] = .opened .link 0) :
    s.stageTick k = s.setStage k (.opened .link 1) := by
  simp [State.stageTick, h, nextExpiryCount, expires]

@[simp] theorem State.stageTick_pending (s : State) (k : ScreenId) : (s.stageTick k).pending = s.pending := by
  unfold State.stageTick; split <;> [(split <;> rfl); rfl; rfl; rfl]
@[simp] theorem State.stageTick_startup (s : State) (k : ScreenId) : (s.stageTick k).startup = s.startup := by
  unfold State.stageTick; split <;> [(split <;> rfl); rfl; rfl; rfl]
@[simp] theorem State.stageTick_port (s : State) (k : ScreenId) : (s.stageTick k).port = s.port := by
  unfold State.stageTick; split <;> [(split <;> rfl); rfl; rfl; rfl]
@[simp] theorem State.stageTick_expirySetting (s : State) (k : ScreenId) : (s.stageTick k).expirySetting = s.expirySetting := by
  unfold State.stageTick; split <;> [(split <;> rfl); rfl; rfl; rfl]
@[simp] theorem State.stageTick_screens (s : State) (k : ScreenId) : (s.stageTick k).screens = s.screens := by
  unfold State.stageTick; split <;> [(split <;> rfl); rfl; rfl; rfl]
@[simp] theorem State.stageTick_inputs (s : State) (k : ScreenId) : (s.stageTick k).inputs = s.inputs := by
  unfold State.stageTick; split <;> [(split <;> rfl); rfl; rfl; rfl]
@[simp] theorem State.stageTick_lossTimeout (s : State) (k : ScreenId) : (s.stageTick k).lossTimeout = s.lossTimeout := by
  unfold State.stageTick; split <;> [(split <;> rfl); rfl; rfl; rfl]
@[simp] theorem State.stageTick_timebase (s : State) (k : ScreenId) : (s.stageTick k).timebase = s.timebase := by
  unfold State.stageTick; split <;> [(split <;> rfl); rfl; rfl; rfl]
@[simp] theorem State.stageTick_carousels (s : State) (k : ScreenId) : (s.stageTick k).carousels = s.carousels := by
  unfold State.stageTick; split <;> [(split <;> rfl); rfl; rfl; rfl]
@[simp] theorem State.stageTick_scenes (s : State) (k : ScreenId) : (s.stageTick k).scenes = s.scenes := by
  unfold State.stageTick; split <;> [(split <;> rfl); rfl; rfl; rfl]
@[simp] theorem State.stageTick_keys (s : State) (k : ScreenId) : (s.stageTick k).keys = s.keys := by
  unfold State.stageTick; split <;> [(split <;> rfl); rfl; rfl; rfl]
@[simp] theorem State.stageTick_keyLines (s : State) (k : ScreenId) : (s.stageTick k).keyLines = s.keyLines := by
  unfold State.stageTick; split <;> [(split <;> rfl); rfl; rfl; rfl]

@[simp] theorem State.minuteAt_pending (s : State) (k : ScreenId) : (s.minuteAt k).pending = s.pending := by
  unfold State.minuteAt; dsimp only; split <;> rfl
@[simp] theorem State.minuteAt_startup (s : State) (k : ScreenId) : (s.minuteAt k).startup = s.startup := by
  unfold State.minuteAt; dsimp only; split <;> rfl
@[simp] theorem State.minuteAt_port (s : State) (k : ScreenId) : (s.minuteAt k).port = s.port := by
  unfold State.minuteAt; dsimp only; split <;> rfl
@[simp] theorem State.minuteAt_windows (s : State) (k : ScreenId) : (s.minuteAt k).windows = s.windows := by
  unfold State.minuteAt; dsimp only; split <;> rfl
@[simp] theorem State.minuteAt_stages (s : State) (k : ScreenId) : (s.minuteAt k).stages = s.stages := by
  unfold State.minuteAt; dsimp only; split <;> rfl
@[simp] theorem State.minuteAt_expirySetting (s : State) (k : ScreenId) : (s.minuteAt k).expirySetting = s.expirySetting := by
  unfold State.minuteAt; dsimp only; split <;> rfl
@[simp] theorem State.minuteAt_inputs (s : State) (k : ScreenId) : (s.minuteAt k).inputs = s.inputs := by
  unfold State.minuteAt; dsimp only; split <;> rfl
@[simp] theorem State.minuteAt_lossTimeout (s : State) (k : ScreenId) : (s.minuteAt k).lossTimeout = s.lossTimeout := by
  unfold State.minuteAt; dsimp only; split <;> rfl
@[simp] theorem State.minuteAt_timebase (s : State) (k : ScreenId) : (s.minuteAt k).timebase = s.timebase := by
  unfold State.minuteAt; dsimp only; split <;> rfl
@[simp] theorem State.minuteAt_carousels (s : State) (k : ScreenId) : (s.minuteAt k).carousels = s.carousels := by
  unfold State.minuteAt; dsimp only; split <;> rfl
@[simp] theorem State.minuteAt_scenes (s : State) (k : ScreenId) : (s.minuteAt k).scenes = s.scenes := by
  unfold State.minuteAt; dsimp only; split <;> rfl
@[simp] theorem State.minuteAt_keys (s : State) (k : ScreenId) : (s.minuteAt k).keys = s.keys := by
  unfold State.minuteAt; dsimp only; split <;> rfl
@[simp] theorem State.minuteAt_keyLines (s : State) (k : ScreenId) : (s.minuteAt k).keyLines = s.keyLines := by
  unfold State.minuteAt; dsimp only; split <;> rfl

@[simp] theorem State.minute_pending (s : State) : (s.minute).pending = s.pending := by
  exact foldl_keeps State.pending State.minuteAt State.minuteAt_pending _ s
@[simp] theorem State.minute_startup (s : State) : (s.minute).startup = s.startup := by
  exact foldl_keeps State.startup State.minuteAt State.minuteAt_startup _ s
@[simp] theorem State.minute_port (s : State) : (s.minute).port = s.port := by
  exact foldl_keeps State.port State.minuteAt State.minuteAt_port _ s
@[simp] theorem State.minute_windows (s : State) : (s.minute).windows = s.windows := by
  exact foldl_keeps State.windows State.minuteAt State.minuteAt_windows _ s
@[simp] theorem State.minute_stages (s : State) : (s.minute).stages = s.stages := by
  exact foldl_keeps State.stages State.minuteAt State.minuteAt_stages _ s
@[simp] theorem State.minute_expirySetting (s : State) : (s.minute).expirySetting = s.expirySetting := by
  exact foldl_keeps State.expirySetting State.minuteAt State.minuteAt_expirySetting _ s
@[simp] theorem State.minute_inputs (s : State) : (s.minute).inputs = s.inputs := by
  exact foldl_keeps State.inputs State.minuteAt State.minuteAt_inputs _ s
@[simp] theorem State.minute_lossTimeout (s : State) : (s.minute).lossTimeout = s.lossTimeout := by
  exact foldl_keeps State.lossTimeout State.minuteAt State.minuteAt_lossTimeout _ s
@[simp] theorem State.minute_timebase (s : State) : (s.minute).timebase = s.timebase := by
  exact foldl_keeps State.timebase State.minuteAt State.minuteAt_timebase _ s
@[simp] theorem State.minute_carousels (s : State) : (s.minute).carousels = s.carousels := by
  exact foldl_keeps State.carousels State.minuteAt State.minuteAt_carousels _ s
@[simp] theorem State.minute_scenes (s : State) : (s.minute).scenes = s.scenes := by
  exact foldl_keeps State.scenes State.minuteAt State.minuteAt_scenes _ s
@[simp] theorem State.minute_keys (s : State) : (s.minute).keys = s.keys := by
  exact foldl_keeps State.keys State.minuteAt State.minuteAt_keys _ s
@[simp] theorem State.minute_keyLines (s : State) : (s.minute).keyLines = s.keyLines := by
  exact foldl_keeps State.keyLines State.minuteAt State.minuteAt_keyLines _ s

/-! ### Carousels (R141 to R146) -/

/-- An advance moves the index, the remaining field and the state alone (R143, R144). -/
theorem Carousel.advance_frame (c : Carousel) (present : InputId → Bool) :
    (c.advance present).1 =
      { c with
        state := (c.advance present).1.state
        index := (c.advance present).1.index
        remaining := (c.advance present).1.remaining } := by
  unfold Carousel.advance Carousel.goTo Carousel.finish
  repeat' split
  all_goals rfl

/-- A cascade moves the index, the remaining field and the state of carousels alone (R145). -/
theorem advanceChain_frame (present : InputId → Bool) (fuel : Nat) (k : CarouselId) (cs : Vector Carousel 16) (f : CarouselId) :
    (advanceChain present fuel k cs).1[f] =
      { cs[f] with
        state := (advanceChain present fuel k cs).1[f].state
        index := (advanceChain present fuel k cs).1[f].index
        remaining := (advanceChain present fuel k cs).1[f].remaining } := by
  induction fuel generalizing k cs f with
  | zero => rfl
  | succ fuel ih =>
    have here : ∀ g : CarouselId, ∃ a b c, (cs.set k (cs[k].advance present).1)[g] = { cs[g] with state := a, index := b, remaining := c } := by
      intro g
      by_cases hg : k = g
      · subst hg
        exact ⟨_, _, _, by simpa using Carousel.advance_frame cs[k] present⟩
      · refine ⟨cs[g].state, cs[g].index, cs[g].remaining, ?_⟩
        have : k.val ≠ g.val := fun h => hg (Fin.ext h)
        simp [this]
    have fold : ∀ (l : List CarouselId) (acc : Vector Carousel 16 × Bool) (g : CarouselId),
        ∃ a b c, (l.foldl
          (fun acc f =>
            if acc.1[f].followsRunning k then
              let q := advanceChain present fuel f acc.1
              (q.1, acc.2 || q.2)
            else acc) acc).1[g] = { acc.1[g] with state := a, index := b, remaining := c } := by
      intro l
      induction l with
      | nil => intro acc g; exact ⟨_, _, _, rfl⟩
      | cons x l ihl =>
        intro acc g
        rw [List.foldl_cons]
        obtain ⟨a, b, c, h⟩ := ihl (if acc.1[x].followsRunning k then
              let q := advanceChain present fuel x acc.1
              (q.1, acc.2 || q.2)
            else acc) g
        refine ⟨a, b, c, h.trans ?_⟩
        split
        · dsimp only
          rw [ih x acc.1 g]
        · rfl
    unfold advanceChain
    dsimp only
    split
    · obtain ⟨a, b, c, h⟩ := here f; rw [h]
    · obtain ⟨a, b, c, h⟩ := here f; rw [h]
    · obtain ⟨a, b, c, h⟩ := here f; rw [h]
    · obtain ⟨a, b, c, h⟩ := fold (List.finRange 16) (cs.set k (cs[k].advance present).1, false) f
      obtain ⟨a', b', c', h'⟩ := here f
      rw [h, h']

@[simp] theorem State.advanceCarousel_pending (s : State) (k : CarouselId) : (s.advanceCarousel k).pending = s.pending := by
  unfold State.advanceCarousel; simp
@[simp] theorem State.advanceCarousel_startup (s : State) (k : CarouselId) : (s.advanceCarousel k).startup = s.startup := by
  unfold State.advanceCarousel; simp
@[simp] theorem State.advanceCarousel_port (s : State) (k : CarouselId) : (s.advanceCarousel k).port = s.port := by
  unfold State.advanceCarousel; simp
@[simp] theorem State.advanceCarousel_windows (s : State) (k : CarouselId) : (s.advanceCarousel k).windows = s.windows := by
  unfold State.advanceCarousel; simp
@[simp] theorem State.advanceCarousel_stages (s : State) (k : CarouselId) : (s.advanceCarousel k).stages = s.stages := by
  unfold State.advanceCarousel; simp
@[simp] theorem State.advanceCarousel_expirySetting (s : State) (k : CarouselId) : (s.advanceCarousel k).expirySetting = s.expirySetting := by
  unfold State.advanceCarousel; simp
@[simp] theorem State.advanceCarousel_screens (s : State) (k : CarouselId) : (s.advanceCarousel k).screens = s.screens := by
  unfold State.advanceCarousel; simp
@[simp] theorem State.advanceCarousel_inputs (s : State) (k : CarouselId) : (s.advanceCarousel k).inputs = s.inputs := by
  unfold State.advanceCarousel; simp
@[simp] theorem State.advanceCarousel_lossTimeout (s : State) (k : CarouselId) : (s.advanceCarousel k).lossTimeout = s.lossTimeout := by
  unfold State.advanceCarousel; simp
@[simp] theorem State.advanceCarousel_timebase (s : State) (k : CarouselId) : (s.advanceCarousel k).timebase = s.timebase := by
  unfold State.advanceCarousel; simp
@[simp] theorem State.advanceCarousel_scenes (s : State) (k : CarouselId) : (s.advanceCarousel k).scenes = s.scenes := by
  unfold State.advanceCarousel; simp
@[simp] theorem State.advanceCarousel_keys (s : State) (k : CarouselId) : (s.advanceCarousel k).keys = s.keys := by
  unfold State.advanceCarousel; simp
@[simp] theorem State.advanceCarousel_keyLines (s : State) (k : CarouselId) : (s.advanceCarousel k).keyLines = s.keyLines := by
  unfold State.advanceCarousel; simp

@[simp] theorem State.countDown_pending (s : State) (k : CarouselId) : (s.countDown k).pending = s.pending := by
  unfold State.countDown; dsimp only; split <;> simp
@[simp] theorem State.countDown_startup (s : State) (k : CarouselId) : (s.countDown k).startup = s.startup := by
  unfold State.countDown; dsimp only; split <;> simp
@[simp] theorem State.countDown_port (s : State) (k : CarouselId) : (s.countDown k).port = s.port := by
  unfold State.countDown; dsimp only; split <;> simp
@[simp] theorem State.countDown_windows (s : State) (k : CarouselId) : (s.countDown k).windows = s.windows := by
  unfold State.countDown; dsimp only; split <;> simp
@[simp] theorem State.countDown_stages (s : State) (k : CarouselId) : (s.countDown k).stages = s.stages := by
  unfold State.countDown; dsimp only; split <;> simp
@[simp] theorem State.countDown_expirySetting (s : State) (k : CarouselId) : (s.countDown k).expirySetting = s.expirySetting := by
  unfold State.countDown; dsimp only; split <;> simp
@[simp] theorem State.countDown_screens (s : State) (k : CarouselId) : (s.countDown k).screens = s.screens := by
  unfold State.countDown; dsimp only; split <;> simp
@[simp] theorem State.countDown_inputs (s : State) (k : CarouselId) : (s.countDown k).inputs = s.inputs := by
  unfold State.countDown; dsimp only; split <;> simp
@[simp] theorem State.countDown_lossTimeout (s : State) (k : CarouselId) : (s.countDown k).lossTimeout = s.lossTimeout := by
  unfold State.countDown; dsimp only; split <;> simp
@[simp] theorem State.countDown_timebase (s : State) (k : CarouselId) : (s.countDown k).timebase = s.timebase := by
  unfold State.countDown; dsimp only; split <;> simp
@[simp] theorem State.countDown_scenes (s : State) (k : CarouselId) : (s.countDown k).scenes = s.scenes := by
  unfold State.countDown; dsimp only; split <;> simp
@[simp] theorem State.countDown_keys (s : State) (k : CarouselId) : (s.countDown k).keys = s.keys := by
  unfold State.countDown; dsimp only; split <;> simp
@[simp] theorem State.countDown_keyLines (s : State) (k : CarouselId) : (s.countDown k).keyLines = s.keyLines := by
  unfold State.countDown; dsimp only; split <;> simp

@[simp] theorem State.carouselTick_pending (s : State) : (s.carouselTick).pending = s.pending := by
  unfold State.carouselTick
  exact foldl_keeps State.pending _ (fun u c => by split <;> simp) _ _
@[simp] theorem State.carouselTick_startup (s : State) : (s.carouselTick).startup = s.startup := by
  unfold State.carouselTick
  exact foldl_keeps State.startup _ (fun u c => by split <;> simp) _ _
@[simp] theorem State.carouselTick_port (s : State) : (s.carouselTick).port = s.port := by
  unfold State.carouselTick
  exact foldl_keeps State.port _ (fun u c => by split <;> simp) _ _
@[simp] theorem State.carouselTick_windows (s : State) : (s.carouselTick).windows = s.windows := by
  unfold State.carouselTick
  exact foldl_keeps State.windows _ (fun u c => by split <;> simp) _ _
@[simp] theorem State.carouselTick_stages (s : State) : (s.carouselTick).stages = s.stages := by
  unfold State.carouselTick
  exact foldl_keeps State.stages _ (fun u c => by split <;> simp) _ _
@[simp] theorem State.carouselTick_expirySetting (s : State) : (s.carouselTick).expirySetting = s.expirySetting := by
  unfold State.carouselTick
  exact foldl_keeps State.expirySetting _ (fun u c => by split <;> simp) _ _
@[simp] theorem State.carouselTick_screens (s : State) : (s.carouselTick).screens = s.screens := by
  unfold State.carouselTick
  exact foldl_keeps State.screens _ (fun u c => by split <;> simp) _ _
@[simp] theorem State.carouselTick_inputs (s : State) : (s.carouselTick).inputs = s.inputs := by
  unfold State.carouselTick
  exact foldl_keeps State.inputs _ (fun u c => by split <;> simp) _ _
@[simp] theorem State.carouselTick_lossTimeout (s : State) : (s.carouselTick).lossTimeout = s.lossTimeout := by
  unfold State.carouselTick
  exact foldl_keeps State.lossTimeout _ (fun u c => by split <;> simp) _ _
@[simp] theorem State.carouselTick_timebase (s : State) : (s.carouselTick).timebase = s.timebase := by
  unfold State.carouselTick
  exact foldl_keeps State.timebase _ (fun u c => by split <;> simp) _ _
@[simp] theorem State.carouselTick_scenes (s : State) : (s.carouselTick).scenes = s.scenes := by
  unfold State.carouselTick
  exact foldl_keeps State.scenes _ (fun u c => by split <;> simp) _ _
@[simp] theorem State.carouselTick_keys (s : State) : (s.carouselTick).keys = s.keys := by
  unfold State.carouselTick
  exact foldl_keeps State.keys _ (fun u c => by split <;> simp) _ _
@[simp] theorem State.carouselTick_keyLines (s : State) : (s.carouselTick).keyLines = s.keyLines := by
  unfold State.carouselTick
  exact foldl_keeps State.keyLines _ (fun u c => by split <;> simp) _ _

/-- The requests that a dwell tick applies are the rows of R141. -/
theorem Carousel.applyRequest_serves (c : Carousel) : c.servesRequest c.applyRequest := by
  unfold Carousel.servesRequest Carousel.applyRequest Carousel.goTo Carousel.dwell
  refine ⟨?_, ?_, ?_, ?_⟩
  · rintro (h | ⟨h, g⟩ | ⟨h, g⟩)
    · cases hs : c.state <;> simp [h]
    · simp [h, g]
    · simp [h, g]
  · intro h g
    simp [h, g]
  · intro e h g he
    simp [h, g, he]
  · intro h g
    cases hs : c.state <;> simp_all

/-! ### The timebase (R132, R181) -/

/-- A reference cycle counts inside its interval, and otherwise is the scan tick that ends it. -/
theorem State.cycle_cases (s : State) :
    (s.timebase.cycles + 1 < intervalLength s.timebase.phase ∧
      s.cycle =
        { s with timebase := { s.timebase with cycles := s.timebase.cycles + 1 }, events := s.events.pass 1 }) ∨
    (intervalLength s.timebase.phase ≤ s.timebase.cycles + 1 ∧ s.cycle = s.scanTick [] s.keyLines) := by
  unfold State.cycle
  split
  · exact Or.inl ⟨by assumption, rfl⟩
  · exact Or.inr ⟨by omega, rfl⟩

/-- No cycle passes once no pulse is driven (R181). -/
theorem State.runPulse_of_pulseLeft_eq_zero {s : State} (h : s.events.pulseLeft = 0) (fuel : Nat) : s.runPulse fuel = s := by
  cases fuel with
  | zero => rfl
  | succ n => simp [State.runPulse, h]

/-! ### The dwell tick (R133) -/

@[simp] theorem State.holdTicks_pending (s : State) : (s.holdTicks).pending = s.pending := by
  rfl
@[simp] theorem State.holdTicks_startup (s : State) : (s.holdTicks).startup = s.startup := by
  rfl
@[simp] theorem State.holdTicks_port (s : State) : (s.holdTicks).port = s.port := by
  rfl
@[simp] theorem State.holdTicks_stages (s : State) : (s.holdTicks).stages = s.stages := by
  rfl
@[simp] theorem State.holdTicks_expirySetting (s : State) : (s.holdTicks).expirySetting = s.expirySetting := by
  rfl
@[simp] theorem State.holdTicks_screens (s : State) : (s.holdTicks).screens = s.screens := by
  rfl
@[simp] theorem State.holdTicks_inputs (s : State) : (s.holdTicks).inputs = s.inputs := by
  rfl
@[simp] theorem State.holdTicks_lossTimeout (s : State) : (s.holdTicks).lossTimeout = s.lossTimeout := by
  rfl
@[simp] theorem State.holdTicks_timebase (s : State) : (s.holdTicks).timebase = s.timebase := by
  rfl
@[simp] theorem State.holdTicks_carousels (s : State) : (s.holdTicks).carousels = s.carousels := by
  rfl
@[simp] theorem State.holdTicks_scenes (s : State) : (s.holdTicks).scenes = s.scenes := by
  rfl
@[simp] theorem State.holdTicks_keys (s : State) : (s.holdTicks).keys = s.keys := by
  rfl
@[simp] theorem State.holdTicks_keyLines (s : State) : (s.holdTicks).keyLines = s.keyLines := by
  rfl
@[simp] theorem State.holdTicks_events (s : State) : (s.holdTicks).events = s.events := by
  rfl

@[simp] theorem State.dwellTick_pending (s : State) : (s.dwellTick).pending = s.pending := by
  unfold State.dwellTick
  have h := foldl_keeps State.pending State.stageTick State.stageTick_pending (List.finRange 8)
  dsimp only
  split <;> simp [h]
@[simp] theorem State.dwellTick_startup (s : State) : (s.dwellTick).startup = s.startup := by
  unfold State.dwellTick
  have h := foldl_keeps State.startup State.stageTick State.stageTick_startup (List.finRange 8)
  dsimp only
  split <;> simp [h]
@[simp] theorem State.dwellTick_port (s : State) : (s.dwellTick).port = s.port := by
  unfold State.dwellTick
  have h := foldl_keeps State.port State.stageTick State.stageTick_port (List.finRange 8)
  dsimp only
  split <;> simp [h]
@[simp] theorem State.dwellTick_expirySetting (s : State) : (s.dwellTick).expirySetting = s.expirySetting := by
  unfold State.dwellTick
  have h := foldl_keeps State.expirySetting State.stageTick State.stageTick_expirySetting (List.finRange 8)
  dsimp only
  split <;> simp [h]
@[simp] theorem State.dwellTick_inputs (s : State) : (s.dwellTick).inputs = s.inputs := by
  unfold State.dwellTick
  have h := foldl_keeps State.inputs State.stageTick State.stageTick_inputs (List.finRange 8)
  dsimp only
  split <;> simp [h]
@[simp] theorem State.dwellTick_lossTimeout (s : State) : (s.dwellTick).lossTimeout = s.lossTimeout := by
  unfold State.dwellTick
  have h := foldl_keeps State.lossTimeout State.stageTick State.stageTick_lossTimeout (List.finRange 8)
  dsimp only
  split <;> simp [h]
@[simp] theorem State.dwellTick_scenes (s : State) : (s.dwellTick).scenes = s.scenes := by
  unfold State.dwellTick
  have h := foldl_keeps State.scenes State.stageTick State.stageTick_scenes (List.finRange 8)
  dsimp only
  split <;> simp [h]
@[simp] theorem State.dwellTick_keys (s : State) : (s.dwellTick).keys = s.keys := by
  unfold State.dwellTick
  have h := foldl_keeps State.keys State.stageTick State.stageTick_keys (List.finRange 8)
  dsimp only
  split <;> simp [h]
@[simp] theorem State.dwellTick_keyLines (s : State) : (s.dwellTick).keyLines = s.keyLines := by
  unfold State.dwellTick
  have h := foldl_keeps State.keyLines State.stageTick State.stageTick_keyLines (List.finRange 8)
  dsimp only
  split <;> simp [h]

/-! ### Recalls and keys (R156 to R163) -/

@[simp] theorem State.placeEntry_pending (s : State) (f : WindowFields) : (s.placeEntry f).pending = s.pending := by
  unfold State.placeEntry; split <;> rfl
@[simp] theorem State.placeEntry_startup (s : State) (f : WindowFields) : (s.placeEntry f).startup = s.startup := by
  unfold State.placeEntry; split <;> rfl
@[simp] theorem State.placeEntry_port (s : State) (f : WindowFields) : (s.placeEntry f).port = s.port := by
  unfold State.placeEntry; split <;> rfl
@[simp] theorem State.placeEntry_stages (s : State) (f : WindowFields) : (s.placeEntry f).stages = s.stages := by
  unfold State.placeEntry; split <;> rfl
@[simp] theorem State.placeEntry_expirySetting (s : State) (f : WindowFields) : (s.placeEntry f).expirySetting = s.expirySetting := by
  unfold State.placeEntry; split <;> rfl
@[simp] theorem State.placeEntry_screens (s : State) (f : WindowFields) : (s.placeEntry f).screens = s.screens := by
  unfold State.placeEntry; split <;> rfl
@[simp] theorem State.placeEntry_inputs (s : State) (f : WindowFields) : (s.placeEntry f).inputs = s.inputs := by
  unfold State.placeEntry; split <;> rfl
@[simp] theorem State.placeEntry_lossTimeout (s : State) (f : WindowFields) : (s.placeEntry f).lossTimeout = s.lossTimeout := by
  unfold State.placeEntry; split <;> rfl
@[simp] theorem State.placeEntry_timebase (s : State) (f : WindowFields) : (s.placeEntry f).timebase = s.timebase := by
  unfold State.placeEntry; split <;> rfl
@[simp] theorem State.placeEntry_carousels (s : State) (f : WindowFields) : (s.placeEntry f).carousels = s.carousels := by
  unfold State.placeEntry; split <;> rfl
@[simp] theorem State.placeEntry_scenes (s : State) (f : WindowFields) : (s.placeEntry f).scenes = s.scenes := by
  unfold State.placeEntry; split <;> rfl
@[simp] theorem State.placeEntry_keys (s : State) (f : WindowFields) : (s.placeEntry f).keys = s.keys := by
  unfold State.placeEntry; split <;> rfl
@[simp] theorem State.placeEntry_keyLines (s : State) (f : WindowFields) : (s.placeEntry f).keyLines = s.keyLines := by
  unfold State.placeEntry; split <;> rfl
@[simp] theorem State.placeEntry_events (s : State) (f : WindowFields) : (s.placeEntry f).events = s.events := by
  unfold State.placeEntry; split <;> rfl

@[simp] theorem State.recallScreen_pending (s : State) (a : Party) (l : List WindowFields) (k : ScreenId) : (s.recallScreen a l k).pending = s.pending := by
  unfold State.recallScreen
  exact foldl_keeps State.pending State.placeEntry State.placeEntry_pending _ _
@[simp] theorem State.recallScreen_startup (s : State) (a : Party) (l : List WindowFields) (k : ScreenId) : (s.recallScreen a l k).startup = s.startup := by
  unfold State.recallScreen
  exact foldl_keeps State.startup State.placeEntry State.placeEntry_startup _ _
@[simp] theorem State.recallScreen_port (s : State) (a : Party) (l : List WindowFields) (k : ScreenId) : (s.recallScreen a l k).port = s.port := by
  unfold State.recallScreen
  exact foldl_keeps State.port State.placeEntry State.placeEntry_port _ _
@[simp] theorem State.recallScreen_expirySetting (s : State) (a : Party) (l : List WindowFields) (k : ScreenId) : (s.recallScreen a l k).expirySetting = s.expirySetting := by
  unfold State.recallScreen
  exact foldl_keeps State.expirySetting State.placeEntry State.placeEntry_expirySetting _ _
@[simp] theorem State.recallScreen_screens (s : State) (a : Party) (l : List WindowFields) (k : ScreenId) : (s.recallScreen a l k).screens = s.screens := by
  unfold State.recallScreen
  exact foldl_keeps State.screens State.placeEntry State.placeEntry_screens _ _
@[simp] theorem State.recallScreen_inputs (s : State) (a : Party) (l : List WindowFields) (k : ScreenId) : (s.recallScreen a l k).inputs = s.inputs := by
  unfold State.recallScreen
  exact foldl_keeps State.inputs State.placeEntry State.placeEntry_inputs _ _
@[simp] theorem State.recallScreen_lossTimeout (s : State) (a : Party) (l : List WindowFields) (k : ScreenId) : (s.recallScreen a l k).lossTimeout = s.lossTimeout := by
  unfold State.recallScreen
  exact foldl_keeps State.lossTimeout State.placeEntry State.placeEntry_lossTimeout _ _
@[simp] theorem State.recallScreen_timebase (s : State) (a : Party) (l : List WindowFields) (k : ScreenId) : (s.recallScreen a l k).timebase = s.timebase := by
  unfold State.recallScreen
  exact foldl_keeps State.timebase State.placeEntry State.placeEntry_timebase _ _
@[simp] theorem State.recallScreen_carousels (s : State) (a : Party) (l : List WindowFields) (k : ScreenId) : (s.recallScreen a l k).carousels = s.carousels := by
  unfold State.recallScreen
  exact foldl_keeps State.carousels State.placeEntry State.placeEntry_carousels _ _
@[simp] theorem State.recallScreen_scenes (s : State) (a : Party) (l : List WindowFields) (k : ScreenId) : (s.recallScreen a l k).scenes = s.scenes := by
  unfold State.recallScreen
  exact foldl_keeps State.scenes State.placeEntry State.placeEntry_scenes _ _
@[simp] theorem State.recallScreen_keys (s : State) (a : Party) (l : List WindowFields) (k : ScreenId) : (s.recallScreen a l k).keys = s.keys := by
  unfold State.recallScreen
  exact foldl_keeps State.keys State.placeEntry State.placeEntry_keys _ _
@[simp] theorem State.recallScreen_keyLines (s : State) (a : Party) (l : List WindowFields) (k : ScreenId) : (s.recallScreen a l k).keyLines = s.keyLines := by
  unfold State.recallScreen
  exact foldl_keeps State.keyLines State.placeEntry State.placeEntry_keyLines _ _
@[simp] theorem State.recallScreen_events (s : State) (a : Party) (l : List WindowFields) (k : ScreenId) : (s.recallScreen a l k).events = s.events := by
  unfold State.recallScreen
  exact foldl_keeps State.events State.placeEntry State.placeEntry_events _ _

/-- A recall reaches windows and stages alone (R157). -/
theorem State.recall_frame {s : State} {a : Party} {n : SceneId} {r : Recalled} (h : s.recall a n = .ok r) :
    r.after = { s with windows := r.after.windows, stages := r.after.stages } := by
  have fold : ∀ (l : List ScreenId) (es : List WindowFields) (u : State),
      ∃ ws gs, l.foldl (fun t k => t.recallScreen a es k) u = { u with windows := ws, stages := gs } := by
    intro l es
    induction l with
    | nil => intro u; exact ⟨_, _, rfl⟩
    | cons k l ih =>
      intro u
      obtain ⟨ws, gs, h⟩ := ih (u.recallScreen a es k)
      refine ⟨ws, gs, ?_⟩
      rw [List.foldl_cons, h]
      simp
  unfold State.recall at h
  dsimp only at h
  split at h <;> [cases h; split at h <;> [cases h; split at h <;> [cases h; skip]]]
  cases h
  obtain ⟨ws, gs, h⟩ := fold _ s.scenes[n].entries s
  dsimp only
  rw [h]

/-! ### Frame starts (R86) -/

@[simp] theorem State.beginFrame_pending (s : State) (k : ScreenId) : (s.beginFrame k).pending = s.pending := by
  unfold State.beginFrame; simp
@[simp] theorem State.beginFrame_startup (s : State) (k : ScreenId) : (s.beginFrame k).startup = s.startup := by
  unfold State.beginFrame; simp
@[simp] theorem State.beginFrame_port (s : State) (k : ScreenId) : (s.beginFrame k).port = s.port := by
  unfold State.beginFrame; simp
@[simp] theorem State.beginFrame_expirySetting (s : State) (k : ScreenId) : (s.beginFrame k).expirySetting = s.expirySetting := by
  unfold State.beginFrame; simp
@[simp] theorem State.beginFrame_inputs (s : State) (k : ScreenId) : (s.beginFrame k).inputs = s.inputs := by
  unfold State.beginFrame; simp
@[simp] theorem State.beginFrame_lossTimeout (s : State) (k : ScreenId) : (s.beginFrame k).lossTimeout = s.lossTimeout := by
  unfold State.beginFrame; simp
@[simp] theorem State.beginFrame_timebase (s : State) (k : ScreenId) : (s.beginFrame k).timebase = s.timebase := by
  unfold State.beginFrame; simp
@[simp] theorem State.beginFrame_carousels (s : State) (k : ScreenId) : (s.beginFrame k).carousels = s.carousels := by
  unfold State.beginFrame; simp
@[simp] theorem State.beginFrame_scenes (s : State) (k : ScreenId) : (s.beginFrame k).scenes = s.scenes := by
  unfold State.beginFrame; simp
@[simp] theorem State.beginFrame_keys (s : State) (k : ScreenId) : (s.beginFrame k).keys = s.keys := by
  unfold State.beginFrame; simp
@[simp] theorem State.beginFrame_keyLines (s : State) (k : ScreenId) : (s.beginFrame k).keyLines = s.keyLines := by
  unfold State.beginFrame; simp

end Sys2Proof.Machine
end

