-- ==== Sys2Proof/Tests/Slice0.lean ====
section
/-! SUPPORT. The model's own tests: what well-formedness refuses, the commands read from bytes written out from chapter 11, one or two
steps of every row against the manual's worked sequences, and for every statement with hypotheses a state and operands that meet them. -/

namespace Sys2Proof.Tests

set_option Elab.async false

open Sys2Proof Sys2Proof.Machine

/-! ### Well-formedness refuses -/

/-- R169: AMEND WINDOW has 37 argument bytes. -/
theorem test_wellFormed_refuses_short_amend : (Instr.amendWindow (List.replicate 36 0#8)).wellFormed = false := by decide

/-- R188: PLACE WINDOW has 34 argument bytes, not 35. -/
theorem test_wellFormed_refuses_long_place : (Instr.placeWindow (List.replicate 35 0#8)).wellFormed = false := by decide

/-- R188: a carousel of two entries is 12 argument bytes; a count above 8 ends the command at the count. -/
theorem test_wellFormed_counts_carousel_entries :
    (Instr.setCarousel [0, 0, 0, 0, 0, 2, 1, 0, 1]).wellFormed = false ∧
    (Instr.setCarousel [0, 0, 0, 0, 0, 9, 1]).wellFormed = false ∧
    (Instr.setCarousel [0, 0, 0, 0, 0, 9]).wellFormed = true := by decide

/-- R172: 20h names SEAL STAGE, and 00h and FFh name nothing. -/
theorem test_wellFormed_refuses_known_bad_opcode :
    (Instr.badOpcode 0x20#8).wellFormed = false ∧ (Instr.badOpcode 0x00#8).wellFormed = true ∧
    (Instr.badOpcode 0xFF#8).wellFormed = true := by decide

/-- Log 5: an event of a scan tick comes once. -/
theorem test_wellFormed_refuses_repeated_tick_part :
    (Instr.scanTick [.key 1, .dwell, .key 1] 0xFF#8).wellFormed = false ∧
    (Instr.scanTick [.key 1, .dwell, .loss 1] 0xFF#8).wellFormed = true := by decide

/-! ### Commands written out from the tables of chapter 11 -/

theorem test_decode_identify : decodeTransaction [0x01] = some .identify := by decide
theorem test_decode_reset_layout : decodeTransaction [0x02] = some .resetLayout := by decide

/-- 11.4, the example: handle 04h, mask 00h 02h, record byte 1 is 02h. -/
def lowerHandle4 : List Byte := [0x04, 0x00, 0x02] ++ ([0x00, 0x02] ++ List.replicate 32 0x00)

theorem test_decode_amend_window :
    decodeTransaction (0x11 :: lowerHandle4) = some (.amendWindow lowerHandle4) ∧
    decodeTransaction ((0x11 :: lowerHandle4).take 37) = none := by decide
theorem test_decode_seal_stage : decodeTransaction [0x20, 0x02, 0x55] = some (.sealStage [0x02]) := by decide
theorem test_decode_probe_point :
    decodeTransaction [0x34, 0x01, 0x03, 0x22, 0x01, 0xC2] = some (.probePoint [0x01, 0x03, 0x22, 0x01, 0xC2]) := by decide
theorem test_decode_configure_inputs : decodeTransaction [0x40, 0x0A, 0x02, 0x00] = some (.configureInputs [0x0A, 0x02, 0x00]) := by
  decide
/-- R188: a SET CAROUSEL of one entry ends at its ninth argument byte. -/
theorem test_decode_set_carousel :
    decodeTransaction [0x50, 0x02, 0x01, 0x00, 0x01, 0x01, 0x01, 0x0A, 0x00, 0x01] =
      some (.setCarousel [0x02, 0x01, 0x00, 0x01, 0x01, 0x01, 0x0A, 0x00, 0x01]) ∧
    decodeTransaction [0x50, 0x02, 0x01, 0x00, 0x01, 0x01, 0x01, 0x0A, 0x00] = none := by decide
theorem test_decode_capture_scene : decodeTransaction [0x61, 0x04, 0x07] = some (.captureScene [0x04, 0x07]) := by decide
theorem test_decode_bind_key :
    decodeTransaction [0x70, 0x02, 0x01, 0x00, 0x01, 0x04] = some (.bindKey [0x02, 0x01, 0x00, 0x01, 0x04]) := by decide
theorem test_decode_set_event_control :
    decodeTransaction [0x7A, 0x06, 0x00, 0x00, 0x01] = some (.setEventControl [0x06, 0x00, 0x00, 0x01]) := by decide
theorem test_decode_bad_opcode :
    decodeTransaction [0x00] = some (.badOpcode 0x00) ∧ decodeTransaction [0x7B, 0x01] = some (.badOpcode 0x7B) := by decide

/-! ### Small states -/

/-- What a row leaves; no row of this part stops. -/
def after (i : Instr) (s : State) : State :=
  match exec i s with
  | .next t => t
  | .fault _ | .refused _ => s

/-- The bytes that the part is about to send after a row. -/
def reply (i : Instr) (s : State) : List Byte := (after i s).port.response

/-- A part that is ready and has just been addressed, every record else as pin reset leaves it. -/
def fresh : State := { State.reset with startup := .ready, port := ⟨.receiving, [], [], []⟩ }

/-- Fields of a window of screen k: the inset of section 1.11. -/
def inset (k : ScreenId) (source : Source) (loss : LossPolicy) (fade : Fin 64) : WindowFields where
  screen := k
  layer := 3
  rect := ⟨100, 80, 739, 439⟩
  source := source
  crop := ⟨0, 0, 0, 0⟩
  opacity := 64
  borderWidth := 2
  borderColour := ⟨255, 255, 255⟩
  slateColour := ⟨0, 0, 0⟩
  loss := loss
  fade := fade
  pinned := false

def plainInset (k : ScreenId) : WindowFields := inset k (.input 4) .slate 0

/-- What a window of input i shows while it is PRESENT. -/
def feedOf (i : InputId) : View := ⟨.feed, some i, 0⟩

def liveWindow (f : WindowFields) (v : View) : Window := .live f .none v none

def runningScreen : Screen := { Screen.reset with mode := .running, plan := some ⟨1920, 1080, ⟨0, 0, 0⟩, []⟩ }

def standbyScreen : Screen := { runningScreen with mode := .standby }

def withWindow (h : Handle) (w : Window) (s : State) : State := s.setWindow h w
def withStage (k : ScreenId) (g : Stage) (s : State) : State := s.setStage k g
def withScreen (k : ScreenId) (c : Screen) (s : State) : State := s.setScreen k c
def withInput (i : InputId) (p : Input) (s : State) : State := s.setInput i p
def withCarousel (c : CarouselId) (r : Carousel) (s : State) : State := s.setCarousel c r
def withKey (k : KeyId) (r : Key) (s : State) : State := s.setKey k r

/-- A frame of a feed with 64 lines of `width` pixels. -/
def frame (width : Nat) : FeedFrame := ⟨List.replicate 64 (List.replicate width ⟨1, 2, 3⟩), []⟩

/-- An input showing frames of 64 x 64 pixels, its newest frame in slot 0. -/
def presentInput : Input :=
  { Input.reset with
    presence := .present ⟨64, 64⟩
    newest := some 0
    slots := Vector.replicate 3 ⟨(frame 64).lines, ⟨64, 64⟩⟩ }

/-- The same input after its feed was lost. -/
def lostInput : Input := { presentInput with presence := .absent, lossCount := 10 }

/-! ### The window table (section 1.11) -/

/-- Handles 0 and 1 LIVE on screen 0, handle 3 RETIRING on screen 2 at layer 1, the others FREE. -/
def twoInsets : State :=
  ((fresh |> withScreen 2 runningScreen) |> withWindow 0 (liveWindow (plainInset 0) (feedOf 4))
    |> withWindow 1 (liveWindow (plainInset 0) (feedOf 4)))
    |> withWindow 3 (.retiring { plainInset 2 with layer := 1 } (feedOf 4) ⟨5, 6, 64⟩)

/-- The record of the picture inset: opacity 70, HOLD with limit 300, fade length 12. -/
def pictureRecord : List Byte :=
  [2, 3, 0, 100, 0, 80, 0x02, 0xE3, 0x01, 0xB7, 0, 4] ++ List.replicate 8 0 ++ [70, 2, 255, 255, 255, 0, 0, 0, 0, 0, 0x01, 0x2C, 12, 0]

theorem test_place_window :
    (after (.placeWindow pictureRecord) twoInsets).windows[2] = .staged (inset 2 (.input 4) (.hold 300) 12) ∧
    reply (.placeWindow pictureRecord) twoInsets = [0x01, 0x02] := by decide +kernel

/-- Rectangle (1200, 600)-(1100, 700). -/
theorem test_place_window_inverted_rectangle :
    reply (.placeWindow ([2, 3, 0x04, 0xB0, 0x02, 0x58, 0x04, 0x4C, 0x02, 0xBC] ++ List.replicate 24 0)) twoInsets = [0x06] := by
  decide +kernel

/-- Both insets STAGED on handles 2 and 4, the carousel inset at layer 15. -/
def twoStaged : State :=
  (twoInsets |> withWindow 2 (.staged (inset 2 (.input 4) (.hold 300) 12))
    |> withWindow 4 (.staged { inset 2 (.carousel 5) .slate 0 with layer := 15 }))
    |> withStage 2 (.opened .link 7)

theorem test_list_screen :
    reply (.listScreen [2]) twoStaged = [0x01, 3, 3, 2, 4] ∧
    reply (.listScreen [2]) (after .transactionBegin (after .transactionEnd (after (.amendWindow lowerHandle4) twoStaged))) =
      [0x01, 3, 3, 4, 2] := by decide +kernel

theorem test_amend_window :
    (after (.amendWindow lowerHandle4) twoStaged).windows[4] = .staged { inset 2 (.carousel 5) .slate 0 with layer := 2 } ∧
    (after (.amendWindow lowerHandle4) twoStaged).stages[2] = .opened .link 0 := by decide +kernel

/-- State STAGED, pending present, layer 3, opacity 64, no display mode, effective input FFh, no transition. -/
theorem test_read_window :
    let r := reply (.readWindow [2, 0x01]) twoStaged
    r.take 5 = [0x01, 0x01, 0x02, 2, 3] ∧ r[23]? = some 64 ∧ r.drop 37 = [0x00, 0xFF, 0x00, 0x00, 0x00] := by decide +kernel

theorem test_read_window_absent_copy :
    reply (.readWindow [2, 0x00]) twoStaged =
      [0x01, 0x01, 0x02] ++ List.replicate 34 0x00 ++ [0x00, 0xFF, 0x00, 0x00, 0x00] := by decide +kernel

/-! ### Stages (section 2.9) -/

/-- Expiry setting 3; handle 6 STAGED and handle 10 LIVE with a pending copy on screen 1, whose stage has count 2. -/
def expiring : State :=
  { ((fresh |> withScreen 1 runningScreen) |> withWindow 6 (.staged (plainInset 1))
      |> withWindow 10 (.live (plainInset 1) (.amended { plainInset 1 with opacity := 32 }) (feedOf 4) none))
      |> withStage 1 (.opened .link 2) with expirySetting := 3 }

theorem test_retire_window :
    (after (.retireWindow [10]) expiring).windows[10] = .live (plainInset 1) .retire (feedOf 4) none ∧
    (after (.retireWindow [10]) expiring).stages[1] = .opened .link 0 ∧
    reply (.retireWindow [7]) expiring = [0x07] := by decide +kernel

theorem test_read_stage : reply (.readStage [1]) expiring = [0x01, 0x01, 0x01, 2, 1] := by decide +kernel

theorem test_stage_expiry :
    let t := after (.stageExpiry 1) expiring
    t.windows[6] = .free ∧ t.windows[10] = liveWindow (plainInset 1) (feedOf 4) ∧ t.stages[1] = .empty ∧ t.events.flags = 0x08 := by
  decide +kernel

/-- R16, R36: an edit taken before the expiring dwell tick keeps the stage and its work at that tick, whatever the setting. -/
theorem test_edit_before_the_expiring_tick : ∀ n ∈ [1, 2, 3],
    let t := after .dwellTick (after (.retireWindow [10]) { expiring with expirySetting := n })
    t.stages[1] = .opened .link 1 ∧ t.windows[6] = .staged (plainInset 1) ∧ t.events.flags = 0x00 := by decide +kernel

/-- R35: a setting of 0 lets no stage expire. -/
theorem test_stage_expiry_disabled : (after (.stageExpiry 1) { expiring with expirySetting := 0 }).stages[1] = .opened .link 2 := by
  decide +kernel

theorem test_seal_stage :
    (after (.sealStage [1]) expiring).stages[1] = .sealed .link 2 ∧ reply (.sealStage [3]) expiring = [0x0C] := by decide +kernel

theorem test_discard_stage :
    (after (.discardStage [1]) expiring).windows[6] = .free ∧ (after (.discardStage [1]) expiring).stages[1] = .empty ∧
    reply (.discardStage [2]) expiring = [0x0B] := by decide +kernel

theorem test_configure_stages : (after (.configureStages [200]) expiring).expirySetting = 200 := by decide +kernel

/-! ### A frame start (sections 2.10, 3.11, 4.6, 4.7) -/

/-- Screen 6 with four kinds of pending work, sealed. -/
def fourEdits : State :=
  ((fresh |> withScreen 6 runningScreen) |> withInput 2 presentInput |> withInput 5 presentInput
    |> withWindow 0 (.staged (inset 6 (.input 5) .slate 6))
    |> withWindow 7 (.live (inset 6 (.input 2) .slate 8) (.amended (inset 6 (.input 5) .slate 8)) (feedOf 2) none)
    |> withWindow 8 (.live (inset 6 .slate .slate 0) .retire ⟨.colour, none, 0⟩ none)
    |> withWindow 9 (.live (inset 6 (.input 5) .slate 4) .retire (feedOf 5) none))
    |> withStage 6 (.sealed .link 0)

theorem test_frame_start_commits :
    let t := after (.frameStart 6) fourEdits
    t.windows[0] = .live (inset 6 (.input 5) .slate 6) .none (feedOf 5) (some (.fadeIn 1 6)) ∧
    t.windows[7] = .live (inset 6 (.input 5) .slate 8) .none (feedOf 5) (some (.crossfade 1 8 (some 2))) ∧
    t.windows[8] = .free ∧ t.windows[9] = .retiring (inset 6 (.input 5) .slate 4) (feedOf 5) ⟨1, 4, 64⟩ ∧
    t.stages[6] = .empty := by decide +kernel

/-- The weights shown are 10, 8 and 48; inputs 2 and 5 are pinned, and no other. -/
theorem test_frame_start_plans :
    let t := after (.frameStart 6) fourEdits
    t.screens[6].frame = 1 ∧ t.screens[6].pins[2] = some 0 ∧ t.screens[6].pins[5] = some 0 ∧ t.screens[6].pins[4] = none ∧
    (t.screens[6].plan.map fun p => p.windows.map fun w => (w.handle, w.opacity, w.fromSide.map FromSide.weight)) =
      some [(0, 10, none), (7, 64, some 8), (9, 48, none)] := by decide +kernel

/-- Handle 0 at opacity 10, handle 7 at 64, handle 9 at 48, each with a white border of 2 and a picture of (1, 2, 3) over black: a point
inside, a border point, a point outside; and no value on a screen that is OFF (R48 to R50, R60, R80). -/
theorem test_output_pixels :
    let t := after (.frameStart 6) fourEdits
    ([Component.red, .green, .blue].map fun c => t.outputPixel 6 c 102 82) = [some 1, some 2, some 3] ∧
    t.outputPixel 6 .red 101 200 = some 255 ∧ t.outputPixel 6 .red 99 80 = some 0 ∧ t.outputPixel 5 .red 102 82 = none := by
  decide +kernel

/-- Pixel (1603, 241) and the border pixel (1281, 100), and the fade-in step. -/
theorem test_blend_worked_values :
    blend 64 40 16 = 40 ∧ blend 48 200 40 = 160 ∧ blend 48 100 80 = 95 ∧ blend 48 10 120 = 38 ∧
    blend 48 255 40 = 201 ∧ blend 48 255 80 = 211 ∧ blend 48 255 120 = 221 ∧
    48 * weight 3 8 / 64 = 18 ∧ blend 18 200 40 = 85 ∧ blend 18 100 80 = 86 ∧ blend 18 10 120 = 89 := by decide

theorem test_crossfade_worked_values :
    (List.range 8).map (fun n => crossMix (weight (n + 1) 8) 40 200) = [180, 160, 140, 120, 100, 80, 60, 40] ∧
    crossMix 8 100 40 = 48 ∧ crossMix 16 100 40 = 55 := by decide

theorem test_fade_out_worked_values :
    (List.range 8).map (fun n => FadeOut.weight ⟨n + 1, 8, 24⟩) = [21, 18, 15, 12, 9, 6, 3, 0] ∧
    startingWeight (some (.fadeIn 3 8)) = 24 := by decide

/-- F11: a fade-out that showed its last step leaves its window FREE. -/
theorem test_transition_end :
    (after (.transitionEnd 20) (fresh |> withScreen 5 runningScreen
      |> withWindow 20 (.retiring (plainInset 5) (feedOf 4) ⟨8, 8, 24⟩))).windows[20] = .free ∧
    (after (.transitionEnd 20) (fresh |> withScreen 5 runningScreen
      |> withWindow 20 (.retiring (plainInset 5) (feedOf 4) ⟨7, 8, 24⟩))).windows[20] =
        .retiring (plainInset 5) (feedOf 4) ⟨7, 8, 24⟩ := by decide +kernel

/-! ### Screens (sections 5.8, 5.9) -/

/-- R81: the idle limit is clamped to 240; 55 is no rate. -/
theorem test_configure_screen :
    (after (.configureScreen [3, 1, 50, 9, 8, 7, 255, 1]) fresh).screens[3] =
      { Screen.reset with format := .hd, rate := .r50, background := ⟨9, 8, 7⟩, idleLimit := 240, keypadLock := true } ∧
    reply (.configureScreen [3, 1, 55, 9, 8, 7, 255, 1]) fresh = [0x05] := by decide +kernel

theorem test_start_screen :
    (after (.startScreen [2]) fresh).screens[2] = { Screen.reset with mode := .running } ∧
    reply (.startScreen [8]) fresh = [0x05] := by decide +kernel

/-- R84, R95: a waiting probe is answered SCREEN_OFF (0Ch) and PROBE is raised. -/
theorem test_stop_screen :
    let t := after (.stopScreen [1]) (fresh |> withScreen 1 { runningScreen with frame := 9, probe := .waiting 1 2 })
    t.screens[1] = { Screen.reset with frame := 9, probe := .answered ⟨.screenOff, none, none, none, none, 9⟩ } ∧
    t.events.flags = 0x10 := by decide +kernel

theorem test_read_screen :
    reply (.readScreen [0]) fresh = [0x01, 0, 0, 60, 0, 0, 0, 0, 0, 0, 0, 0] ++ List.replicate 12 0xFF ++ [0] := by decide +kernel

theorem test_probe_point :
    reply (.probePoint [0x01, 0x03, 0x22, 0x01, 0xC2]) (fresh |> withScreen 1 runningScreen) = [0x02] ∧
    (after (.probePoint [0x01, 0x03, 0x22, 0x01, 0xC2]) (fresh |> withScreen 1 runningScreen)).screens[1].probe =
      .waiting 802 450 := by decide +kernel

/-- A BORDER answer of handle 9 in mode COLOUR, in frame 4018. -/
theorem test_probe_result :
    reply (.probeResult [1]) (fresh |> withScreen 1
      { runningScreen with probe := .answered ⟨.window, some 9, some .border, some .colour, none, 4018⟩ }) =
      [0x01, 0x01, 9, 0x01, 0x05, 0, 0, 0, 0, 0, 0x0F, 0xB2] ∧
    reply (.probeResult [1]) fresh = [0x16] := by decide +kernel

/-- The point (802, 450) in the plan of handle 2 below handle 9: before the commit a picture point, after it a border point. -/
theorem test_probe_answers :
    let full : PlanWindow :=
      ⟨2, 0, ⟨0, 0, 1919, 1079⟩, some ⟨0, 0, 1919, 1079⟩, 0, ⟨0, 0, 0⟩, 64, .feed,
        .slot ⟨5, 0, 1920, 1080, 0, 0, 1920, 1080, 4096, 4096⟩, none⟩
    let upper : PlanWindow :=
      ⟨9, 4, ⟨800, 400, 1119, 579⟩, some ⟨800, 400, 1119, 579⟩, 4, ⟨0, 0, 0⟩, 64, .colour, .plain ⟨0, 0, 0⟩, none⟩
    Plan.probe ⟨1920, 1080, ⟨0, 0, 0⟩, [full]⟩ 802 450 4018 =
      ⟨.window, some 2, some .picture, some .feed, some (802, 450), 4018⟩ ∧
    Plan.probe ⟨1920, 1080, ⟨0, 0, 0⟩, [full, upper]⟩ 802 450 4018 =
      ⟨.window, some 9, some .border, some .colour, none, 4018⟩ := by decide +kernel

/-- Screen 7 with an idle limit of 2 and one minute counted. -/
def idling : State := fresh |> withScreen 7 { runningScreen with idleLimit := 2, idleCount := 1 }

theorem test_minute : (after .minute idling).screens[7].mode = .standby ∧ (after .minute idling).events.flags = 0x40 := by
  decide +kernel

/-- The same part with this many dwell ticks counted. -/
def atDwellTick (n : Nat) (s : State) : State := { s with timebase := { s.timebase with dwellTicks := n } }

/-- R133: the 600th dwell tick delivers the minute, the one before it does not. -/
theorem test_minute_at_the_600th_dwell_tick :
    (after .dwellTick (atDwellTick 598 idling)).screens[7].mode = .running ∧
    (after .dwellTick (atDwellTick 599 idling)).screens[7].mode = .standby ∧
    (after .dwellTick (atDwellTick 599 idling)).timebase.dwellTicks = 0 := by decide +kernel

theorem test_standby_entry :
    (after (.standbyEntry 7) idling).screens[7].mode = .standby ∧
    (after (.standbyEntry 7) (idling |> withScreen 7 { runningScreen with idleLimit := 2 })).screens[7].mode = .running := by
  decide +kernel

/-! ### Inputs (sections 6.6, 6.7) and holds (section 7.6) -/

/-- The frame start of frame c: slot 2 newest, slot 0 pinned by screen 5, slot 1 by screens 0 and 3. -/
theorem test_feed_frame_start_unstored :
    (after (.feedFrameStart ⟨4, frame 64⟩) (fresh |> withInput 4 { presentInput with newest := some 2 }
      |> withScreen 5 { runningScreen with pins := runningScreen.pins.set 4 (some 0) }
      |> withScreen 0 { runningScreen with pins := runningScreen.pins.set 4 (some 1) })).inputs[4].inProgress =
        .unstored (frame 64) := by
  decide +kernel

/-- The frame start of frame d: slot 0 is free and unpinned again. -/
theorem test_feed_frame_start_stored :
    (after (.feedFrameStart ⟨4, frame 64⟩) (fresh |> withInput 4 { presentInput with newest := some 2 }
      |> withScreen 0 { runningScreen with pins := runningScreen.pins.set 4 (some 1) })).inputs[4].inProgress =
        .stored 0 (frame 64) := by
  decide +kernel

/-- R99, R108: an irregular frame, its one line and its trailing pixels, the last of them delivered before the frame end, written over slot 1
of input 9, whose other pixels stay; its frame end frees the slot with them. -/
theorem test_feed_frame_is_written_as_it_comes :
    let t := after (.feedFrameStart ⟨9, ⟨[[⟨7, 7, 7⟩]], [⟨8, 8, 8⟩]⟩⟩) (fresh |> withInput 9 presentInput)
    let u := after (.feedFrameEnd 9 ⟨[], [⟨0, 0, 0⟩]⟩) t
    t.inputs[9].inProgress.slot = some 1 ∧ pixelAt t.inputs[9].slots[1].contents 1 1 = ⟨1, 2, 3⟩ ∧
    u.inputs[9].presence = .acquiring none ∧ u.inputs[9].role 1 = .free ∧ u.inputs[9].slots[1].tag = ⟨64, 64⟩ ∧
    ([(0, 0), (1, 0), (0, 1), (1, 1), (2, 1), (64, 1)].map fun p => pixelAt u.inputs[9].slots[1].contents p.1 p.2) =
      [⟨7, 7, 7⟩, ⟨1, 2, 3⟩, ⟨8, 8, 8⟩, ⟨0, 0, 0⟩, ⟨1, 2, 3⟩, ⟨0, 0, 0⟩] := by decide +kernel

/-- R99: no pixel of a column beyond 1919 is stored. -/
theorem test_feed_frame_is_clipped :
    let f : FeedFrame := ⟨[List.replicate 1921 ⟨7, 7, 7⟩], []⟩
    (f.stored.map List.length) = [1920, 0] ∧ pixelAt (storePixels [] f.stored) 1919 0 = ⟨7, 7, 7⟩ ∧
    pixelAt (storePixels [] f.stored) 1920 0 = blankPixel := by decide +kernel

/-- The confirming frame end: PRESENT, the frame newest with its size, the mark set and INPUT raised. -/
theorem test_feed_frame_end_confirms :
    let t := after (.feedFrameEnd 9 ⟨[List.replicate 79 ⟨1, 2, 3⟩], []⟩) (fresh |> withInput 9
      { lostInput with
        presence := .acquiring (some ⟨80, 64⟩)
        inProgress := .stored 1 ⟨(frame 80).lines.take 63, [⟨7, 7, 7⟩]⟩
        eventEnable := true })
    t.inputs[9].presence = .present ⟨80, 64⟩ ∧ t.inputs[9].newest = some 1 ∧ t.inputs[9].slots[1].tag = ⟨80, 64⟩ ∧
    t.inputs[9].changed = true ∧ t.events.flags = 0x02 := by decide +kernel

/-- R99: a width of 63 is out of range. -/
theorem test_feed_frame_end_out_of_range :
    (frame 63).size = none ∧
    (after (.feedFrameEnd 9 (frame 63)) (fresh |> withInput 9
      { presentInput with inProgress := .stored 1 ⟨[], []⟩ })).inputs[9].presence = .acquiring none := by decide +kernel

/-- The tenth scan tick after the last frame start. -/
theorem test_loss_timeout :
    let t := after (.lossTimeout 9) (fresh |> withInput 9 { presentInput with lossCount := 9, eventEnable := true })
    t.inputs[9].presence = .absent ∧ t.inputs[9].newest = some 0 ∧ t.events.flags = 0x02 := by decide +kernel

theorem test_configure_inputs :
    let t := after (.configureInputs [3, 0x02, 0x01]) fresh
    t.lossTimeout = 4 ∧ t.inputs[9].eventEnable = true ∧ t.inputs[0].eventEnable = true ∧ t.inputs[1].eventEnable = false := by
  decide +kernel

theorem test_read_input :
    reply (.readInput [9]) (fresh |> withInput 9 { lostInput with changed := true }) =
      [0x01, 0, 0, 0, 0, 0, 0, 0, 0, 0, 1, 0, 10, 0, 0, 64, 0, 64, 2, 0, 0, 0, 0, 0] ∧
    (after (.readInput [9]) (fresh |> withInput 9 { lostInput with changed := true })).inputs[9].changed = false := by decide +kernel

/-- Handle 14 holding the last frame of a lost input, its limit of 30 reached. -/
def heldOut : State :=
  (fresh |> withScreen 2 runningScreen) |> withInput 8 lostInput
    |> withWindow 14 (liveWindow (inset 2 (.input 8) (.hold 30) 10) ⟨.holding, some 8, 30⟩)

theorem test_hold_end :
    (after (.holdEnd 14) heldOut).windows[14] = liveWindow (inset 2 (.input 8) (.hold 30) 10) ⟨.slated, some 8, 0⟩ ∧
    (after (.holdEnd 14) heldOut).events.flags = 0x80 ∧
    (after (.frameStart 2) heldOut).windows[14].mode = some .slated := by decide +kernel

/-- R122: a window whose carousel has moved to another input, or whose stage commits an amend to policy SLATE, ends no hold. -/
theorem test_hold_end_not_due :
    let moved := heldOut |> withCarousel 0 ⟨.running, .none, .loop, false, .timer, [⟨8, 1⟩, ⟨9, 1⟩], 1, 1⟩
      |> withWindow 14 (liveWindow (inset 2 (.carousel 0) (.hold 30) 10) ⟨.holding, some 8, 30⟩)
    let amended := heldOut |> withStage 2 (.sealed .link 0)
      |> withWindow 14 (.live (inset 2 (.input 8) (.hold 30) 10) (.amended (inset 2 (.input 8) (.hold 31) 10)) ⟨.holding, some 8, 30⟩ none)
    after (.holdEnd 14) moved = moved ∧ after (.holdEnd 14) amended = amended := by decide +kernel

/-! ### The timebase and the carousels (section 8.8) -/

def leader : Carousel :=
  ⟨.running, .none, .loop, false, .timer, [⟨2, 3⟩, ⟨5, 2⟩], 0, 3⟩

/-- Just before D16: carousel 0 at its last entry, carousel 1 at its last, carousel 2 at its first. -/
def beforeD16 : State :=
  fresh |> withCarousel 0 { leader with index := 1, remaining := 1 }
    |> withCarousel 1 ⟨.running, .none, .loop, false, .follow 0, [⟨7, 1⟩, ⟨8, 1⟩, ⟨9, 1⟩], 2, 1⟩
    |> withCarousel 2 ⟨.running, .none, .once, false, .follow 1, [⟨10, 1⟩, ⟨11, 1⟩], 0, 1⟩

theorem test_dwell_tick_cascade :
    let t := after .dwellTick beforeD16
    t.carousels[0] = leader ∧ t.carousels[1].index = 0 ∧ t.carousels[2].index = 1 ∧ t.timebase.dwellTicks = 1 := by decide +kernel

/-- D31: the wrap of carousel 1 ends carousel 2, which raises CAROUSEL. -/
theorem test_carousel_advance_ends_follower :
    let t := after (.carouselAdvance 0) (beforeD16 |> withCarousel 2 { beforeD16.carousels[2] with index := 1 })
    t.carousels[2].state = .ended ∧ t.carousels[2].index = 1 ∧ t.events.flags = 0x20 := by decide +kernel

/-- R141, R142: a STOP pending at the dwell tick stops the carousel, which is not counted down, and stops the follower, which does not
advance. -/
theorem test_carousel_advance_applies_requests :
    let stopping := beforeD16 |> withCarousel 0 { beforeD16.carousels[0] with request := .stop }
    let alone := beforeD16 |> withCarousel 1 { beforeD16.carousels[1] with request := .stop }
    after (.carouselAdvance 0) stopping = stopping ∧
    (after (.carouselAdvance 0) alone).carousels[0].index = 0 ∧
    (after (.carouselAdvance 0) alone).carousels[1] = { beforeD16.carousels[1] with state := .stopped } ∧
    (after (.carouselAdvance 0) alone).carousels[2] = beforeD16.carousels[2] := by decide +kernel

/-- R141: the request is applied and the carousel is not counted down at that tick. -/
theorem test_dwell_tick_applies_request :
    (after .dwellTick (fresh |> withCarousel 0 { leader with state := .stopped, request := .start })).carousels[0] = leader := by
  decide +kernel

/-- A dwell of 0 is clamped to 1; the chain 0, 2, 1, 0 is refused. -/
theorem test_set_carousel :
    (after (.setCarousel [3, 1, 0, 0, 0, 1, 2, 0, 0]) fresh).carousels[3] =
      ⟨.stopped, .none, .once, false, .timer, [⟨2, 1⟩], 0, 1⟩ ∧
    reply (.setCarousel [0, 0, 0, 1, 2, 0]) (beforeD16 |> withCarousel 0 { leader with state := .stopped }) = [0x12] := by decide +kernel

theorem test_start_carousel :
    (after (.startCarousel [0]) (fresh |> withCarousel 0 { leader with state := .ended })).carousels[0].request = .start ∧
    reply (.startCarousel [1]) fresh = [0x10] := by decide +kernel
theorem test_stop_carousel : (after (.stopCarousel [0]) beforeD16).carousels[0].request = .stop := by decide +kernel
theorem test_step_carousel :
    (after (.stepCarousel [0]) (fresh |> withCarousel 0 { leader with remaining := 2 })).carousels[0] =
      { leader with index := 1, remaining := 2 } ∧
    reply (.stepCarousel [2]) (fresh |> withCarousel 2 { leader with state := .ended }) = [0x11] := by decide +kernel
theorem test_read_carousel :
    reply (.readCarousel [0]) (fresh |> withCarousel 0 leader) = [0x01, 1, 0, 0, 0, 0, 0, 2, 2, 0, 3, 5, 0, 2, 0, 0, 3] := by
  decide +kernel

/-- R132, R133: the tenth scan tick ends an interval of 327 cycles and brings a dwell tick. -/
theorem test_scan_tick_timebase :
    (after (.scanTick [] 0xFF) { fresh with timebase := ⟨24, 326, 9, 599⟩ }).timebase = ⟨0, 0, 0, 0⟩ := by decide +kernel

/-- R132, R161: the cycle that ends an interval, on an empty queue, brings the scan tick, which finds the key lines as they stand. -/
theorem test_idle_ends_interval :
    let t := ({ fresh with timebase := ⟨0, 327, 0, 0⟩, keyLines := 0xFE, pending := [] } : State).idle
    t.timebase = ⟨1, 0, 1, 0⟩ ∧ t.keys[0].disagreement = 1 ∧ t.keys[1].disagreement = 0 := by decide +kernel

/-! ### Scenes and keys (sections 9.9, 9.10) -/

def sceneFour : Scene :=
  ⟨0x07,
    [inset 0 (.input 2) .slate 10, inset 1 (.input 3) .slate 10, inset 0 (.carousel 1) .slate 0, inset 2 (.input 5) .slate 10,
     inset 2 .slate .slate 0]⟩

def recallKey : Key := { Key.reset with enabled := true, action := .recall 4, disagreement := 2 }

/-- Scene 4 and key 2 of section 9.9, screen 1 keypad-locked. -/
def bar : State :=
  { ((((fresh |> withScreen 0 runningScreen) |> withScreen 1 { runningScreen with keypadLock := true })
      |> withScreen 2 runningScreen |> withScreen 5 runningScreen
      |> withWindow 0 (liveWindow { plainInset 0 with pinned := true } (feedOf 4))
      |> withWindow 1 (liveWindow (inset 0 (.input 4) .slate 6) (feedOf 4))
      |> withWindow 2 (liveWindow (plainInset 2) (feedOf 4))
      |> withWindow 3 (.retiring (inset 2 (.input 4) .slate 5) (feedOf 4) ⟨2, 5, 64⟩))
      |> withWindow 4 (liveWindow (inset 1 (.input 4) .slate 6) (feedOf 4))
      |> withWindow 5 (liveWindow (plainInset 5) (feedOf 4)))
      |> withKey 2 recallKey with scenes := fresh.scenes.set 4 sceneFour }

theorem test_key_press_recalls :
    let t := after (.keyPress 2) bar
    t.keys[2].outcome = .partly ∧ t.events.flags = 0x04 ∧
    ((List.finRange 8).map fun k => t.stages[k]) =
      [.sealed .panel 0, .empty, .sealed .panel 0, .empty, .empty, .empty, .empty, .empty] ∧
    ((List.finRange 64).filter fun h => t.windows[h].retireMark) = [1, 2] ∧
    t.windows[8] = .staged (inset 2 (.input 5) .slate 10) ∧ t.windows[10] = .free := by decide +kernel

/-- By the venue controller: DONE, screens 0 to 2, five placed, four marked. -/
theorem test_recall_scene :
    reply (.recallScene [4]) bar = [0x01, 0x80, 0x07, 5, 4] ∧
    (after (.recallScene [4]) bar).stages[1] = .sealed .link 0 ∧ reply (.recallScene [3]) bar = [0x13] := by decide +kernel

/-- R154: unpinned LIVE windows of screens 0 and 2, in order. -/
theorem test_capture_scene :
    reply (.captureScene [7, 0x05]) bar = [0x01, 2] ∧
    (after (.captureScene [7, 0x05]) bar).scenes[7] = ⟨0x05, [inset 0 (.input 4) .slate 6, plainInset 2]⟩ := by decide +kernel

theorem test_store_scene :
    (after (.storeScene ([5, 0x04, 1] ++ pictureRecord)) fresh).scenes[5] = ⟨0x04, [inset 2 (.input 4) (.hold 300) 12]⟩ ∧
    reply (.storeScene ([5, 0x03, 1] ++ pictureRecord)) fresh = [0x05] := by decide +kernel
theorem test_clear_scene : (after (.clearScene [4]) bar).scenes[4] = ⟨0, []⟩ := by decide +kernel
theorem test_read_scene : (reply (.readScene [4]) bar).take 7 = [0x01, 0x07, 5, 0, 3, 0, 100] := by decide +kernel

/-- R165: the outcome becomes NONE, the debounce is left. -/
theorem test_bind_key :
    (after (.bindKey [2, 1, 1, 3, 6]) (bar |> withKey 2 { recallKey with outcome := .done })).keys[2] =
      { recallKey with mode := .repeating, action := .toggle 6 } ∧
    reply (.bindKey [2, 1, 1, 3, 16]) bar = [0x05] := by decide +kernel
theorem test_read_keys :
    (reply .readKeys (bar |> withKey 2 { recallKey with outcome := .partly })).take 20 =
      [0x01, 0, 0, 0, 0, 0, 0, 0, 0, 0, 0, 0, 0, 1, 0, 1, 4, 0x81, 0, 0] := by decide +kernel

/-- Key 5 of section 9.10, held since S5. -/
def stepKey : Key := ⟨true, .repeating, .step 6, .done, true, 0, 49, true⟩

def stepping : State :=
  fresh |> withCarousel 6 { leader with entries := [⟨1, 9⟩, ⟨2, 9⟩, ⟨3, 9⟩], index := 1, remaining := 9 } |> withKey 5 stepKey

theorem test_key_repeat :
    (after (.keyRepeat 5) stepping).carousels[6].index = 2 ∧ (after (.keyRepeat 5) stepping).keys[5].repeatCount = 30 := by
  decide +kernel

/-- S5: the third consecutive low sample; S55: the fiftieth tick after the press. -/
theorem test_scan_tick_keys :
    (after (.scanTick [] 0xDF) (stepping |> withKey 5
      ⟨true, .repeating, .step 6, .none, false, 2, 0, false⟩)).keys[5] = ⟨true, .repeating, .step 6, .done, true, 0, 0, true⟩ ∧
    (after (.scanTick [] 0xDF) stepping).carousels[6].index = 2 := by decide +kernel

/-- S84. -/
theorem test_key_release :
    (after (.keyRelease 5) (stepping |> withKey 5 { stepKey with disagreement := 2, repeatCount := 38 })).keys[5] =
      ⟨true, .repeating, .step 6, .done, false, 0, 0, false⟩ := by decide +kernel

/-! ### The control port, start-up and the event unit (chapter 10) -/

theorem test_identify : reply .identify fresh = [0x01, 0xC7, 0x04, 0xB8, 0x01] := by decide +kernel
theorem test_not_ready : reply .identify { fresh with startup := .initialising } = [0x03] := by decide +kernel
theorem test_reset_layout :
    (after .resetLayout bar).windows[3] = .free ∧ (after .resetLayout bar).scenes[4] = sceneFour ∧
    (after .resetLayout bar).screens[0] = runningScreen := by decide +kernel
theorem test_bad_opcode : reply (.badOpcode 0x7B) State.reset = [] ∧ reply (.badOpcode 0x7B) fresh = [0x04] := by decide +kernel
theorem test_transaction_begin : (after .transactionBegin State.reset).port = ⟨.receiving, [], [], []⟩ := by decide +kernel
theorem test_transaction_end :
    (after .transactionEnd (after (.amendWindow [4, 0]) twoStaged)).windows = twoStaged.windows ∧
    (after .transactionEnd (after (.amendWindow [4, 0]) twoStaged)).port = Port.idle := by decide +kernel
theorem test_pin_reset : after .pinReset bar = State.reset := by decide +kernel
theorem test_reset_pin_release : (after .resetPinRelease State.reset).startup = .initialising := by decide +kernel
theorem test_initialisation_restart :
    after .initialisationRestart { fresh with startup := .initialising } = { fresh with startup := .initialising } := by decide +kernel
/-- R175, R178: READY is raised and enabled, so the line is asserted. -/
theorem test_initialisation_end :
    let t := after .initialisationEnd { State.reset with startup := .initialising }
    t.startup = .ready ∧ t.events.flags = 0x01 ∧ t.attention = true := by decide +kernel

/-- The lost feed under LEVEL sensitivity: INPUT and KEY set, input 9 ABSENT. -/
def lostFeed : State :=
  { fresh |> withInput 9 { lostInput with eventEnable := true } with events := ⟨0x06, 0x06, .level, .readClears, .level, 0⟩ }

theorem test_read_events :
    reply .readEvents lostFeed = [0x01, 0x06, 0x06, 0, 0, 1] ∧ (after .readEvents lostFeed).events.flags = 0x02 ∧
    (after .readEvents lostFeed).attention = true := by decide +kernel
theorem test_clear_events :
    (after (.clearEvents [0xFF]) lostFeed).events.flags = 0x02 ∧ (after (.clearEvents [0x02]) fresh).events.flags = 0 := by
  decide +kernel
theorem test_set_event_control :
    (after (.setEventControl [0x06, 1, 0, 1]) lostFeed).attention = false ∧ reply (.setEventControl [0x06, 2, 0, 1]) lostFeed = [0x05] := by
  decide +kernel
theorem test_pulse_end :
    let t := after .pulseEnd { fresh with events := ⟨0x02, 0x02, .pulse, .readClears, .edge, 2⟩ }
    t.attention = false ∧ t.timebase.cycles = 2 := by decide +kernel

/-- A pulse that reaches over the end of an interval: its scan tick comes in between (R132, R181). -/
theorem test_pulse_end_over_a_tick :
    let t := after .pulseEnd { fresh with events := ⟨0x02, 0x02, .pulse, .readClears, .edge, 2⟩, timebase := ⟨24, 327, 4, 0⟩ }
    t.attention = false ∧ t.timebase = ⟨0, 1, 5, 0⟩ := by decide +kernel

/-! ### States and operands that meet the hypotheses of the statements -/

theorem exec_eq_after (i : Instr) (s : State) : exec i s = .next (after i s) := by
  cases i <;> rfl

/-- A step of a state whose queue is one row. -/
theorem step_eq_after (i : Instr) (s : State) (h : s.pending = [i]) : step s = .next (after i { s with pending := [] }) := by
  simp only [step, h, exec_eq_after]

theorem test_witness_StepTakesTheFrontOfTheQueue :
    ({ fresh with pending := [.identify, .minute] } : State).pending = .identify :: [.minute] := rfl

theorem test_witness_EmptyQueueIsOneReferenceCycle :
    (State.reset.pending = [] ∧ State.reset.startup = .held) ∧
    (fresh.startup ≠ .held ∧ (326 : Nat) + 1 < intervalLength 0 ∧ (325 : Nat) + 1 < intervalLength 2 ∧ fresh.pending = []) ∧
    (intervalLength 0 ≤ (327 : Nat) + 1 ∧ intervalLength 2 ≤ (326 : Nat) + 1) := by
  decide

/-- The laws hold in a part in use, and a step is taken there. -/
def queued (i : Instr) (s : State) : State := { s with pending := [i] }

theorem test_witness_EveryStepKeepsTheStageLaw :
    bar.StageLaw ∧ step (queued (.recallScene [4]) bar) = .next (after (.recallScene [4]) bar) :=
  ⟨by decide +kernel, step_eq_after _ _ rfl⟩

theorem test_witness_EveryStepKeepsTheSlotLaw :
    fourEdits.SlotLaw ∧ step (queued (.feedFrameStart ⟨5, frame 64⟩) fourEdits) = .next (after (.feedFrameStart ⟨5, frame 64⟩) fourEdits) :=
  ⟨by decide +kernel, step_eq_after _ _ rfl⟩

theorem test_witness_EveryStepKeepsPlansOnPinnedSlots :
    (after (.frameStart 6) fourEdits).PlanLaw ∧
    step (queued (.feedFrameStart ⟨5, frame 64⟩) (after (.frameStart 6) fourEdits)) =
      .next (after (.feedFrameStart ⟨5, frame 64⟩) (after (.frameStart 6) fourEdits)) :=
  ⟨by decide +kernel, step_eq_after _ _ rfl⟩

theorem test_witness_EveryStepKeepsTheScreenLaw :
    bar.StageLaw ∧ bar.ScreenLaw ∧ step (queued (.frameStart 2) bar) = .next (after (.frameStart 2) bar) :=
  ⟨by decide +kernel, by decide +kernel, step_eq_after _ _ rfl⟩

theorem test_witness_EveryStepKeepsTheCarouselLaw :
    beforeD16.CarouselLaw ∧ step (queued .dwellTick beforeD16) = .next (after .dwellTick beforeD16) :=
  ⟨by decide +kernel, step_eq_after _ _ rfl⟩

theorem test_witness_EveryStepKeepsTheRecordRanges :
    bar.TransitionLaw ∧ bar.SceneLaw ∧ bar.CountLaw ∧
    step (queued (.frameStart 2) bar) = .next (after (.frameStart 2) bar) :=
  ⟨by decide +kernel, by decide +kernel, by decide +kernel, step_eq_after _ _ rfl⟩

theorem test_witness_OnlyAFrameStartReachesThePicture :
    exec (.frameStart 6) fourEdits = .next (after (.frameStart 6) fourEdits) ∧
    (after (.frameStart 6) fourEdits).screens[6].plan ≠ fourEdits.screens[6].plan ∧
    exec (.stopScreen [6]) fourEdits = .next (after (.stopScreen [6]) fourEdits) ∧
    (after (.stopScreen [6]) fourEdits).screens[6].plan ≠ fourEdits.screens[6].plan ∧
    fourEdits.windows[7].liveCopy = some (inset 6 (.input 2) .slate 8) :=
  ⟨exec_eq_after _ _, by decide +kernel, exec_eq_after _ _, by decide +kernel, by decide +kernel⟩

/-- Eight entries, the most that a SET CAROUSEL may count. -/
def longCarousel : List Byte := [3, 1, 0, 0, 0, 8] ++ (List.replicate 8 [0x02, 0x00, 0x05]).flatten

theorem test_witness_TransactionBytesDecodeToTheirRow :
    (Instr.setCarousel longCarousel).wellFormed = true ∧ (Instr.setCarousel longCarousel).bytes = some (0x50 :: longCarousel) ∧
    30 < (0x50 :: longCarousel).length ∧ (Instr.badOpcode 0xFF).wellFormed = true ∧ (Instr.badOpcode 0xFF).bytes = some [0xFF] := by
  decide

theorem test_witness_TransactionsBeginAndEnd :
    State.reset.port.phase = .noTransaction ∧ (Instr.sealStage [2]).bytes = some [0x20, 2] ∧
    fresh.addressed ∧ Opcode.setCarousel.argumentCount longCarousel = some longCarousel.length ∧ 29 < longCarousel.length := by decide

theorem test_witness_ResponseIsShiftedOutByteByByte :
    let s : State := { fresh with port := ⟨.sending, [], [0x01, 0x02], [0x00]⟩ }
    s.port.phase = .sending ∧ s.port.response ≠ [] ∧ Instr.identify.bytes = some [0x01] ∧
    (Instr.sealStage [2]).bytes = some [0x20, 2] ∧ (Instr.readWindow [2, 0]).bytes = some [0x13, 2, 0] ∧
    ({ fresh with port := ⟨.filler, [], [], [0x00, 0x04]⟩ } : State).port.phase = .filler := by decide

theorem test_witness_CommandsBeforeReadinessAreNotReady :
    (∀ p ∈ [Startup.held, Startup.initialising], ({ fresh with startup := p } : State).startup ≠ .ready ∧
      ({ fresh with startup := p } : State).addressed) ∧
    Opcode.identify.argumentCount [] = some 0 ∧ Opcode.sealStage.argumentCount [0xFF] = some 1 := by decide

theorem test_witness_BadOpcodeIsAnsweredAtOnce :
    fresh.addressed ∧ (∀ op : Opcode, op.code ≠ 0x00) ∧ (∀ op : Opcode, op.code ≠ 0x7B) ∧
    Opcode.sealStage.argumentCount [] ≠ some 0 ∧ Opcode.setCarousel.argumentCount [] ≠ some 0 :=
  ⟨by decide, fun op => by cases op <;> decide, fun op => by cases op <;> decide, by decide, by decide⟩

theorem test_witness_RefusedCommandsChangeNothing :
    fresh.addressed ∧ Opcode.sealStage.argumentCount [8] = some 1 ∧ Opcode.readWindow.argumentCount [63, 1] = some 2 := by decide

theorem test_witness_IdentifyReturnsTheThreeCodes : fresh.listening := by decide

theorem test_witness_StartupRunsFromResetToReady :
    State.reset.startup = .held ∧ ({ fresh with startup := .initialising } : State).startup = .initialising ∧
    fresh.startup ≠ .held ∧ fresh.startup ≠ .initialising := by decide

theorem test_witness_ResetLayoutClearsTheLayout : bar.listening := by decide +kernel

/-- A part whose line mode is PULSE, with INPUT enabled and these flags and cycles of a pulse. -/
def pulsing (flags : Byte) (left : Nat) : State :=
  { fresh with events := ⟨flags, 0x02, .pulse, .readClears, .edge, left⟩, timebase := ⟨0, 325, 0, 0⟩ }

theorem test_witness_AttentionLineFollowsTheFlags :
    fresh.events.lineMode = .level ∧ (pulsing 0x00 0).events.lineMode = .pulse ∧
    ((pulsing 0x00 0).events.isSet .input = false ∧ (pulsing 0x00 0).events.isEnabled .input = true) ∧
    (pulsing 0x02 0).events.isSet .input = true ∧ (pulsing 0x00 0).events.isEnabled .slated = false ∧
    (pulsing 0x00 0).events.pulseLeft = 0 ∧ (pulsing 0x02 2).events.pulseLeft ≠ 0 ∧
    (pulsing 0x02 2).timebase.cycles + (pulsing 0x02 2).events.pulseLeft < intervalLength (pulsing 0x02 2).timebase.phase ∧
    (pulsing 0x02 2).startup ≠ .held ∧ State.reset.startup = .held ∧
    (let s : State := { pulsing 0x02 2 with timebase := ⟨0, 326, 0, 0⟩ }
     s.CountLaw ∧ intervalLength s.timebase.phase ≤ s.timebase.cycles + s.events.pulseLeft) := by
  decide +kernel

theorem test_witness_EventsAreReadAndControlled :
    lostFeed.listening ∧ lostFeed.events.clearMode = .readClears ∧ lostFeed.inputClearHeld ∧
    (fresh.listening ∧ fresh.events.clearMode = .readClears ∧ ¬ fresh.inputClearHeld) ∧
    ({ fresh with events := { fresh.events with clearMode := .writeClears } } : State).events.clearMode = .writeClears ∧
    1 < (0x02#8 : Byte).toNat ∧ LineMode.pulse.code = 0x01 ∧ ClearMode.readClears.code = 0x00 ∧ Sensitivity.level.code = 0x01 :=
  ⟨by decide +kernel, by decide +kernel, ⟨by decide +kernel, 9, by decide +kernel⟩, ⟨by decide, by decide, fun h => absurd h.1 (by decide)⟩,
    rfl, by decide, rfl, rfl, rfl⟩

theorem test_witness_ClearEventsClearsTheSelection : lostFeed.listening ∧ lostFeed.events.isSet .input = true := by decide +kernel

/-- The picture inset's record with another source kind and number, loss policy and substitute. -/
def recordWith (kind number policy substitute : Byte) : List Byte :=
  (((pictureRecord.set 10 kind).set 11 number).set 28 policy).set 29 substitute

/-- Its rectangle from (x, 80) to (739, 439). -/
def recordFromX (high low : Byte) : List Byte := (pictureRecord.set 2 high).set 3 low

theorem test_witness_RecordsAreTestedAndClampedByGroup :
    ((0xFFFF#16).getLsbD 2 = true ∧ min (num2 (recordFromX 0x02 0xE4) 6) 4095 < min (num2 (recordFromX 0x02 0xE4) 2) 4095) ∧
    ¬ min (num2 (recordFromX 0x02 0xE3) 6) 4095 < min (num2 (recordFromX 0x02 0xE3) 2) 4095 ∧
    (num (recordWith 3 0 0 0) 10 = 3 ∧ 12 ≤ num (recordWith 0 12 0 0) 11 ∧ 16 ≤ num (recordWith 1 16 0 0) 11) ∧
    (2 < num (recordWith 0 0 3 0) 28 ∧ 12 ≤ num (recordWith 0 0 2 12) 29) ∧
    (num (recordWith 0 11 0 0) 11 = (11 : InputId).val ∧ num (recordWith 1 15 0 0) 11 = (15 : CarouselId).val ∧
      num (recordWith 2 99 0 0) 10 = 2 ∧ num (recordWith 0 0 1 0) 28 = 1 ∧ num (recordWith 0 0 2 11) 29 = (11 : InputId).val) ∧
    editFields 0xFFFF#16 (recordWith 0 11 2 11) (plainInset 2) =
      .ok { inset 2 (.input 11) (.substitute 11) 12 with opacity := 64 } ∧
    (∀ g : Fin 16, (0x0000#16).getLsbD g = false) ∧
    editFields 0x0000#16 (recordWith 3 12 3 12) (plainInset 2) = .ok (plainInset 2) := by decide +kernel

theorem test_witness_SentRecordsAreReadBackWhole :
    let f : WindowFields := { inset 2 (.input 4) (.hold 65535) 63 with rect := ⟨5, 6, 5, 6⟩ }
    f.rect.x0 ≤ f.rect.x1 ∧ f.rect.y0 ≤ f.rect.y1 ∧ ∀ limit, f.loss = .hold limit → limit ≤ 65535 :=
  ⟨by decide, by decide, fun _ h => by cases h; decide⟩

/-- A part whose every handle holds a STAGED window. -/
def fullTable : State := { fresh with windows := Vector.replicate 64 (.staged (plainInset 2)) }

theorem test_witness_PlaceWindowTakesTheLowestFreeHandle :
    twoStaged.listening ∧ pictureRecord.length = 34 ∧ 8 ≤ num (pictureRecord.set 0 8) 0 ∧
    num (pictureRecord.set 0 7) 0 = (7 : ScreenId).val ∧ num pictureRecord 0 = (2 : ScreenId).val ∧
    fourEdits.stages[6].isSealed ∧ (fresh |> withStage 2 (.opened .panel 0)).stages[2] = .opened .panel 0 ∧
    twoInsets.stages[2].openToLink ∧ twoStaged.stages[2].openToLink ∧
    (fullTable.listening ∧ ∀ h : Handle, fullTable.windows[h] ≠ .free) ∧
    (twoInsets.windows[2] = .free ∧ ∀ g : Handle, g < 2 → twoInsets.windows[g] ≠ .free) ∧
    recordFields 2 (recordFromX 0x02 0xE4) = .error .badGeometry ∧
    recordFields 2 pictureRecord = .ok (inset 2 (.input 4) (.hold 300) 12) :=
  ⟨by decide +kernel, by decide, by decide, by decide, by decide, ⟨.link, 0, by decide +kernel⟩, by decide +kernel,
    .inl (by decide +kernel), .inr ⟨7, by decide +kernel⟩, by decide +kernel, by decide +kernel, by decide +kernel, by decide +kernel⟩

/-- What AMEND WINDOW and RETIRE WINDOW can find: every state of a window, and every state of the stage of its screen. -/
theorem test_witness_edits_find_every_window :
    (expiring.listening ∧ bar.listening ∧ fourEdits.listening) ∧ expiring.windows[7] = .free ∧
    (∃ c v o, bar.windows[3] = .retiring c v o) ∧ (∃ c v x, fourEdits.windows[8] = .live c .retire v x) ∧
    expiring.windows[6] = .staged (plainInset 1) ∧
    (∃ c v x, expiring.windows[10] = .live c (.amended { plainInset 1 with opacity := 32 }) v x) ∧
    (∃ v x, bar.windows[2] = .live (plainInset 2) .none v x) ∧
    (fourEdits.windows[0] = .staged (inset 6 (.input 5) .slate 6) ∧ fourEdits.stages[6].isSealed) ∧
    (expiring |> withStage 1 (.opened .panel 0)).stages[(plainInset 1).screen] = .opened .panel 0 ∧
    expiring.stages[(plainInset 1).screen].openToLink ∧ bar.stages[(plainInset 2).screen].openToLink :=
  ⟨⟨by decide +kernel, by decide +kernel, by decide +kernel⟩, by decide +kernel, ⟨inset 2 (.input 4) .slate 5, feedOf 4, ⟨2, 5, 64⟩, by decide +kernel⟩,
    ⟨inset 6 .slate .slate 0, ⟨.colour, none, 0⟩, none, by decide +kernel⟩, by decide +kernel,
    ⟨plainInset 1, feedOf 4, none, by decide +kernel⟩, ⟨feedOf 4, none, by decide +kernel⟩,
    ⟨by decide +kernel, ⟨.link, 0, by decide +kernel⟩⟩, by decide +kernel, .inr ⟨2, by decide +kernel⟩, .inl (by decide +kernel)⟩

theorem test_witness_AmendWindowEditsThePendingCopy :
    lowerHandle4.length = 37 ∧ 64 ≤ num (lowerHandle4.set 0 64) 0 ∧ num (lowerHandle4.set 0 63) 0 = (63 : Handle).val ∧
    editFields (0x00#8 ++ 0x02#8) (lowerHandle4.drop 3) (plainInset 1) = .ok { plainInset 1 with layer := 2 } ∧
    editFields (0x00#8 ++ 0x04#8) (recordFromX 0x02 0xE4) (plainInset 1) = .error .badGeometry := by decide +kernel

theorem test_witness_RetireWindowFreesOrMarks : 64 ≤ (64#8 : Byte).toNat ∧ (63#8 : Byte).toNat = (63 : Handle).val := by decide

theorem test_witness_ReadWindowReportsTheRecord :
    twoStaged.listening ∧ 64 ≤ (64#8 : Byte).toNat ∧ 1 < (2#8 : Byte).toNat ∧ (63#8 : Byte).toNat = (63 : Handle).val ∧
    (1#8 : Byte).toNat ≤ 1 ∧ twoStaged.windows[63] = .free ∧
    twoStaged.windows[2] = .staged (inset 2 (.input 4) (.hold 300) 12) ∧
    twoStaged.windows[0] = .live (plainInset 0) .none (feedOf 4) none ∧
    expiring.windows[10] = .live (plainInset 1) (.amended { plainInset 1 with opacity := 32 }) (feedOf 4) none ∧
    fourEdits.windows[9] = .live (inset 6 (.input 5) .slate 4) .retire (feedOf 5) none ∧
    twoStaged.windows[3] = .retiring { plainInset 2 with layer := 1 } (feedOf 4) ⟨5, 6, 64⟩ ∧
    (after (.frameStart 6) fourEdits).windows[0] = .live (inset 6 (.input 5) .slate 6) .none (feedOf 5) (some (.fadeIn 1 6)) ∧
    (after (.frameStart 6) fourEdits).windows[7] =
      .live (inset 6 (.input 5) .slate 8) .none (feedOf 5) (some (.crossfade 1 8 (some 2))) := by decide +kernel

/-- The records that a screen command, a stage command, a carousel command and so on can name, and the first that they cannot. -/
theorem test_witness_record_numbers :
    (8 ≤ (8#8 : Byte).toNat ∧ (7#8 : Byte).toNat = (7 : ScreenId).val) ∧ (12 ≤ (12#8 : Byte).toNat ∧ (11#8 : Byte).toNat = (11 : InputId).val) ∧
    (16 ≤ (16#8 : Byte).toNat ∧ (15#8 : Byte).toNat = (15 : CarouselId).val) ∧ (15#8 : Byte).toNat = (15 : SceneId).val ∧
    (7#8 : Byte).toNat = (7 : KeyId).val := by decide

theorem test_witness_ListScreenIsInStackingOrder : twoStaged.listening ∧ (2#8 : Byte).toNat = (2 : ScreenId).val := by decide +kernel

/-- A part whose stage of screen 1 is `g`, with one STAGED, one amended, one retiring window on a RUNNING screen 1. -/
def staging (g : Stage) : State := withWindow 20 (.retiring (plainInset 1) (feedOf 4) ⟨8, 8, 24⟩) (withStage 1 g expiring)

theorem test_witness_SealAndDiscardFollowTheStage :
    (staging .empty).listening ∧ (staging .empty).screens[0].mode = .off ∧ (staging .empty).screens[1].mode ≠ .off ∧
    (staging .empty).stages[1] = .empty ∧ (staging (.sealed .panel 0)).stages[1].isSealed ∧
    (staging (.opened .panel 0)).stages[1] = .opened .panel 0 ∧ (staging (.opened .link 255)).stages[1] = .opened .link 255 :=
  ⟨by decide +kernel, by decide +kernel, by decide +kernel, by decide +kernel, ⟨.panel, 0, by decide +kernel⟩, by decide +kernel,
    by decide +kernel⟩

theorem test_witness_StagesAreConfiguredAndRead :
    (staging .empty).listening ∧ (staging (.sealed .link 0)).stages[1] = .sealed .link 0 ∧
    (staging (.sealed .panel 0)).stages[1] = .sealed .panel 0 ∧ (staging (.opened .link 3)).stages[1] = .opened .link 3 ∧
    (staging (.opened .link 3)).expirySetting = 3 := by decide +kernel

/-- Stage 1 is due at count 2 of setting 3 and not at count 1, and at setting 1 due at count 1 and not at count 0. -/
theorem test_witness_DwellTickAgesStagesAndHolds :
    (staging (.opened .link 2)).startup ≠ .held ∧
    (∃ n, (staging (.opened .link 2)).stages[1] = .opened .link n ∧ (staging (.opened .link 2)).expirySetting ≠ 0 ∧
      (staging (.opened .link 2)).expirySetting ≤ min (n + 1) 255 ∧ n ≠ 0) ∧
    (∀ n ∈ [0, 1], let s : State := { staging (.opened .link n) with expirySetting := 1 }
      s.stages[1] = .opened .link n ∧ s.expirySetting ≠ 0 ∧ s.expirySetting ≤ min (n + 1) 255) ∧
    ((staging (.opened .link 1)).stages[1] = .opened .link 1 ∧ ¬ (staging (.opened .link 1)).expirySetting ≤ min (1 + 1) 255) ∧
    (heldOut.windows[14].mode = some .holding ∧ heldOut.screens[2].mode ≠ .off ∧ heldOut.screens[2].plan ≠ none) ∧
    ((atDwellTick 598 idling).startup ≠ .held ∧ (atDwellTick 598 idling).timebase.dwellTicks < 599 ∧
      599 ≤ (atDwellTick 599 idling).timebase.dwellTicks) :=
  ⟨by decide +kernel, ⟨2, by decide +kernel⟩, by decide +kernel, by decide +kernel, by decide +kernel, by decide +kernel⟩

theorem test_witness_FrameStartFixesTheFrame :
    (bar.screens[3].mode = .off ∧ bar.screens[2].mode ≠ .off) ∧ fourEdits.stages[6].isSealed ∧ ¬ bar.stages[2].isSealed ∧
    bar.windows[0].screen ≠ some 2 ∧
    (fresh |> withScreen 1 { runningScreen with probe := .waiting 1919 1079 }).screens[1].probe = .waiting 1919 1079 ∧
    bar.screens[2].probe.isWaiting = false ∧ (after (.frameStart 2) bar).showsOn 2 ∧
    ¬ (after (.frameStart 7) (fresh |> withScreen 7 standbyScreen)).showsOn 7 :=
  ⟨by decide +kernel, ⟨.link, 0, by decide +kernel⟩,
    fun ⟨_, _, h⟩ => absurd (h.symm.trans (by decide +kernel : bar.stages[2] = .empty)) (fun e => by cases e),
    by decide +kernel, by decide +kernel, by decide +kernel, ⟨3, by decide +kernel⟩, by unfold State.showsOn; decide +kernel⟩

theorem test_witness_PlansListTheShownWindows :
    let s := after (.frameStart 6) fourEdits
    (s.screens[6].format = .fhd ∧ ({ Screen.reset with format := .hd } : Screen).format = .hd) ∧
    (s.makePlan 6).windows.map (fun w => w.handle) = [0, 7, 9] ∧
    (s.windows[0] = .live (inset 6 (.input 5) .slate 6) .none (feedOf 5) (some (.fadeIn 1 6)) ∧
      s.windows[7] = .live (inset 6 (.input 5) .slate 8) .none (feedOf 5) (some (.crossfade 1 8 (some 2))) ∧
      s.windows[9] = .retiring (inset 6 (.input 5) .slate 4) (feedOf 5) ⟨1, 4, 64⟩) ∧
    (s.inputs[5].newest = some 0 ∧ s.inputs[0].newest = none) ∧ (inset 6 (.input 5) .slate 6).crop.cw.val = 0 ∧
    (inset 6 (.input 5) .slate 6).rect.x0.val < 1920 := by decide +kernel

theorem test_witness_CompositionStaysInRange :
    (64 : Nat) ≤ 64 ∧ (4095 : Nat) < 4096 ∧ (1 ≤ 1 ∧ 1 ≤ 63) ∧ (1 ≤ 63 ∧ 63 ≤ 63) ∧ (⟨64, 64⟩ : Size).inRange = true ∧
    (⟨1920, 1080⟩ : Size).inRange = true ∧ (after (.frameStart 6) fourEdits).TransitionLaw ∧
    (fourEdits.screens[6].plan.map Plan.windows = some [] ∧ fourEdits.screens[6].mode = .running ∧ fresh.screens[6].mode ≠ .running) ∧
    (let p := (after (.frameStart 6) fourEdits).makePlan 6
     (∃ below w, p.windows = below ++ [w]) ∧
     p.windows.map (fun w => (w.covers 99 80, w.covers 102 82, w.isBorder 102 82, w.isBorder 101 200, w.fromSide.isSome)) =
       [(false, true, false, true, false), (false, true, false, true, true), (false, true, false, true, false)]) := by
  refine ⟨by decide, by decide, by decide, by decide, by decide, by decide, by decide +kernel, by decide +kernel, ?_⟩
  refine ⟨⟨_, _, (List.dropLast_append_getLast (l := ((after (.frameStart 6) fourEdits).makePlan 6).windows) ?_).symm⟩, by decide +kernel⟩
  decide +kernel

theorem test_witness_FrameStartCommitsPendingWork :
    fourEdits.screens[6].mode ≠ .off ∧ fourEdits.stages[6].isSealed ∧
    (fourEdits.windows[0] = .staged (inset 6 (.input 5) .slate 6) ∧
      fourEdits.windows[7] = .live (inset 6 (.input 2) .slate 8) (.amended (inset 6 (.input 5) .slate 8)) (feedOf 2) none ∧
      fourEdits.windows[8] = .live (inset 6 .slate .slate 0) .retire ⟨.colour, none, 0⟩ none ∧
      fourEdits.windows[9] = .live (inset 6 (.input 5) .slate 4) .retire (feedOf 5) none) ∧
    (bar.stages[2] = .empty ∧ bar.windows[2] = .live (plainInset 2) .none (feedOf 4) none ∧
      bar.windows[3] = .retiring (inset 2 (.input 4) .slate 5) (feedOf 4) ⟨2, 5, 64⟩) ∧
    (staging (.opened .link 2)).windows[20] = .retiring (plainInset 1) (feedOf 4) ⟨8, 8, 24⟩ :=
  ⟨by decide +kernel, ⟨.link, 0, by decide +kernel⟩, by decide +kernel, by decide +kernel, by decide +kernel⟩

/-- Handle 11 on screen 0 with fade length 8 and this transition, its old effective input 6, in a frame of screen 0 (section 4.6). -/
def rotating (x : Option LiveTransition) : State :=
  ((fresh |> withScreen 0 runningScreen) |> withInput 1 presentInput |> withInput 6 presentInput
    |> withCarousel 2 { leader with entries := [⟨6, 9⟩, ⟨1, 9⟩], index := 1, remaining := 9 })
    |> withWindow 11 (.live (inset 0 (.carousel 2) .slate 8) .none (feedOf 6) x)

theorem test_witness_TransitionsFollowChangesOfSource :
    ∀ x ∈ [none, some (.fadeIn 7 8), some (.fadeIn 8 8), some (.crossfade 3 8 (some 1)), some (.crossfade 8 8 none)],
      (rotating x).screens[0].mode ≠ .off ∧ (rotating x).screens[0].plan ≠ none ∧
      (rotating x).windows[11] = .live (inset 0 (.carousel 2) .slate 8) .none (feedOf 6) x ∧
      (after (.frameStart 0) (rotating x)).windows[11] =
        .live (inset 0 (.carousel 2) .slate 8) .none (feedOf 1)
          (if x = some (.fadeIn 7 8) then some (.fadeIn 8 8) else some (.crossfade 1 8 (some 6))) := by decide +kernel

/-- Handle 14 on screen 2 in mode `mode` with hold count `hold`, its input 8 lost. -/
def losing (loss : LossPolicy) (mode : DisplayMode) (hold : Nat) : State :=
  heldOut |> withWindow 14 (liveWindow (inset 2 (.input 8) loss 10) ⟨mode, some 8, hold⟩)

theorem test_witness_DisplayModesAreDecidedInOrder :
    (losing (.hold 30) .feed 0).screens[2].mode ≠ .off ∧ (losing (.hold 30) .feed 0).windows[14].screen = some 2 ∧
    (∀ p ∈ [(LossPolicy.hold 30, DisplayMode.feed, 0, DisplayMode.holding), (.hold 30, .holding, 29, .holding),
        (.hold 30, .holding, 30, .slated), (.hold 0, .holding, 65535, .holding), (.hold 30, .slated, 0, .slated),
        (.slate, .feed, 0, .slated), (.substitute 3, .feed, 0, .slated)],
      (after (.frameStart 2) (losing p.1 p.2.1 p.2.2.1)).windows[14].mode = some p.2.2.2) ∧
    (after (.frameStart 6) fourEdits).windows[0].shown = some (inset 6 (.input 5) .slate 6, feedOf 5) := by decide +kernel

theorem test_witness_EndsComeAtTheirWindows :
    ((rotating (some (.fadeIn 8 8))).windows[11] = .live (inset 0 (.carousel 2) .slate 8) .none (feedOf 6) (some (.fadeIn 8 8)) ∧
      (rotating (some (.fadeIn 8 8))).screens[(inset 0 (.carousel 2) .slate 8).screen].mode ≠ .off) ∧
    ((staging .empty).windows[20] = .retiring (plainInset 1) (feedOf 4) ⟨8, 8, 24⟩ ∧ (staging .empty).screens[1].mode ≠ .off) ∧
    bar.windows[3] = .retiring (inset 2 (.input 4) .slate 5) (feedOf 4) ⟨2, 5, 64⟩ ∧
    (heldOut.windows[14] = liveWindow (inset 2 (.input 8) (.hold 30) 10) ⟨.holding, some 8, 30⟩ ∧
      heldOut.inputs[8].presence = .absent ∧ ¬ heldOut.stages[2].isSealed ∧ heldOut.designated (.input 8) = some 8) ∧
    (losing (.hold 30) .holding 29).windows[14].shown = some (inset 2 (.input 8) (.hold 30) 10, ⟨.holding, some 8, 29⟩) ∧
    ((heldOut |> withStage 2 (.sealed .link 0)).stages[2].isSealed ∧ (inset 2 (.input 8) (.hold 30) 10).fade.val ≠ 0 ∧
      (inset 2 (.input 8) (.hold 29) 10).source ≠ .slate) ∧
    (7 : Nat) < (⟨7, 8, 24⟩ : FadeOut).n := by
  refine ⟨by decide +kernel, by decide +kernel, by decide +kernel, ⟨by decide +kernel, by decide +kernel, ?_, by decide +kernel⟩,
    by decide +kernel, ⟨⟨.link, 0, by decide +kernel⟩, by decide +kernel, by decide +kernel⟩, by decide⟩
  rintro ⟨o, n, h⟩
  exact absurd h (by rw [show heldOut.stages[2] = .empty by decide +kernel]; simp)

theorem test_witness_ScreensAreConfiguredAndRead :
    bar.listening ∧ (1 < (2#8 : Byte).toNat ∧ (55#8 : Byte) ≠ 50#8 ∧ (55#8 : Byte) ≠ 60#8) ∧
    (Format.hd.code = 0x01 ∧ Rate.r50.code = 50 ∧ (1#8 : Byte).toNat ≤ 1) ∧
    (bar.screens[0].mode ≠ .off ∧ Format.hd ≠ bar.screens[0].format) ∧ bar.screens[3].mode = .off ∧
    (bar.screens[0].format = .fhd ∧ bar.screens[0].rate = .r60) ∧ bar.screens[0].pins[11] = none ∧
    (after (.frameStart 6) fourEdits).screens[6].pins[5] = some 0 := by decide +kernel

theorem test_witness_ScreensStartAndStop :
    bar.listening ∧ bar.screens[3].mode = .off ∧ bar.screens[2].mode ≠ .off ∧ bar.windows[0].screen ≠ some 2 ∧
    (bar.windows[2].screen = some 2 ∧ bar.windows[2] = .live (plainInset 2) .none (feedOf 4) none) ∧
    bar.windows[3] = .retiring (inset 2 (.input 4) .slate 5) (feedOf 4) ⟨2, 5, 64⟩ ∧
    (fresh |> withScreen 1 { runningScreen with probe := .waiting 1919 1079 }).screens[1].probe = .waiting 1919 1079 := by
  decide +kernel

/-- The corner (1919, 1079) of an FHD raster is a point of it, and (1920, 1079) is not. -/
theorem test_witness_ProbesAreAnsweredFromThePlan :
    bar.listening ∧ (0x07#8 : Byte).toNat * 256 + (0x7F#8 : Byte).toNat < bar.screens[0].format.width ∧
    bar.screens[0].format.width ≤ (0x07#8 : Byte).toNat * 256 + (0x80#8 : Byte).toNat ∧
    (0x04#8 : Byte).toNat * 256 + (0x37#8 : Byte).toNat < bar.screens[0].format.height ∧
    bar.screens[3].mode = .off ∧ (bar.screens[0].mode ≠ .off ∧ bar.screens[0].probe.isWaiting = false) ∧
    (fresh |> withScreen 1 { runningScreen with probe := .waiting 5 5 }).screens[1].probe.isWaiting = true ∧
    (after (.frameStart 6) fourEdits).makePlan 6 ≠ ⟨1920, 1080, ⟨0, 0, 0⟩, []⟩ ∧
    (((after (.frameStart 6) fourEdits).makePlan 6).windows.map fun w => (w.covers 100 80, w.covers 739 439, w.covers 99 80)) =
      [(true, true, false), (true, true, false), (true, true, false)] := by decide +kernel

theorem test_witness_ProbeResultIsReadOnce :
    let answer : ProbeAnswer := ⟨.window, some 9, some .border, some .colour, none, 4018⟩
    bar.listening ∧ bar.screens[0].probe = .empty ∧
    (fresh |> withScreen 1 { runningScreen with probe := .waiting 5 5 }).screens[1].probe = .waiting 5 5 ∧
    (fresh |> withScreen 1 { runningScreen with probe := .answered answer }).screens[1].probe = .answered answer := by decide +kernel

theorem test_witness_MinutesLeadToStandby :
    idling.startup ≠ .held ∧ (idling.screens[7].mode = .running ∧ ¬ idling.showsOn 7 ∧ idling.screens[7].idleLimit.val ≠ 0 ∧
      idling.screens[7].idleLimit.val ≤ min (idling.screens[7].idleCount + 1) 240) ∧
    (bar.screens[2].mode = .running ∧ bar.showsOn 2 ∧ bar.screens[2].idleLimit.val = 0) :=
  ⟨by decide, ⟨by decide +kernel, by unfold State.showsOn; decide +kernel, by decide +kernel, by decide +kernel⟩,
    ⟨by decide +kernel, ⟨2, by decide +kernel⟩, by decide +kernel⟩⟩

/-- An input whose three slots are all newest or pinned, and one with a free slot. -/
theorem test_witness_FeedFrameStartGivesASlot :
    State.reset.startup ≠ .ready ∧ fourEdits.startup = .ready ∧
    (∃ z, (fourEdits |> withInput 5 { presentInput with inProgress := .stored 1 ⟨[], []⟩ }).inputs[5].presence = .present z) ∧
    (fourEdits.inputs[5].newest ≠ some 1 ∧ ∀ k : ScreenId, fourEdits.screens[k].pins[(5 : InputId)] ≠ some 1) ∧
    (let s := fresh |> withInput 4 { presentInput with newest := some 2 }
      |> withScreen 5 { runningScreen with pins := runningScreen.pins.set 4 (some 0) }
      |> withScreen 0 { runningScreen with pins := runningScreen.pins.set 4 (some 1) }
     ∀ j : SlotId, ¬ (s.inputs[4].newest ≠ some j ∧ ∀ k : ScreenId, s.screens[k].pins[(4 : InputId)] ≠ some j)) ∧
    fresh.inputs[0].presence = .absent ∧
    (let f : FeedFrame := ⟨[[⟨7, 7, 7⟩], List.replicate 1921 ⟨1, 2, 3⟩], [⟨8, 8, 8⟩]⟩
     (∀ p ∈ [(0, 0), (1919, 1), (1920, 1), (0, 2)], (((f.lines ++ [f.trailing])[p.2]?.getD [])[p.1]?).isSome = true) ∧
      ((f.lines ++ [f.trailing])[0]?.getD [])[1]? = none ∧ ((f.lines ++ [f.trailing])[3]?.getD [])[0]? = none) :=
  ⟨by decide, by decide +kernel, ⟨⟨64, 64⟩, by decide +kernel⟩, by decide +kernel, by decide +kernel, by decide, by decide +kernel⟩

theorem test_witness_FeedFrameEndJudgesTheFrame :
    (frame 64).size = some ⟨64, 64⟩ ∧ (frame 63).size = none ∧
    (fresh.startup = .ready ∧ fresh.inputs[0].inProgress = .none) ∧
    (∀ p ∈ [Presence.acquiring none, .acquiring (some ⟨64, 64⟩), .acquiring (some ⟨80, 64⟩), .present ⟨64, 64⟩, .present ⟨80, 64⟩],
      ∀ f ∈ [InProgress.stored 1 ⟨[], []⟩, .stored 1 (frame 64), .unstored ⟨[], []⟩, .unstored (frame 64)],
        (fresh |> withInput 9 { presentInput with presence := p, inProgress := f }).inputs[9].presence = p ∧
        (fresh |> withInput 9 { presentInput with presence := p, inProgress := f }).inputs[9].inProgress.delivered.isSome = true) ∧
    (((frame 64).append ⟨[], []⟩).size = some ⟨64, 64⟩ ∧ (FeedFrame.append ⟨[], []⟩ (frame 80)).size = some ⟨80, 64⟩) := by
  decide +kernel

theorem test_witness_InputsAreLostConfiguredAndRead :
    let lost := fresh |> withInput 9 { presentInput with lossCount := 9 }
    let kept := fresh |> withInput 9 { presentInput with lossCount := 8 }
    (lost.inputs[9].presence = .present ⟨64, 64⟩ ∧ lost.lossTimeout ≤ lost.inputs[9].lossCount + 1) ∧
    ¬ kept.lossTimeout ≤ kept.inputs[9].lossCount + 1 ∧ fresh.inputs[9].presence = .absent ∧ lost.listening ∧
    (fresh |> withInput 9 { Input.reset with presence := .acquiring (some ⟨64, 64⟩) }).inputs[9].presence =
      .acquiring (some ⟨64, 64⟩) ∧
    (lost.inputs[9].newest = some 0 ∧ fresh.inputs[9].newest = none) := by decide +kernel

theorem test_witness_ScanTickReachesEveryRecord :
    (State.reset.startup = .held ∧ fresh.startup ≠ .held) ∧ (fresh.timebase.scanTicks < 9 ∧ 9 ≤ (⟨0, 0, 9, 0⟩ : Timebase).scanTicks) ∧
    (let lost := fresh |> withInput 9 { presentInput with lossCount := 9 } |> withInput 8 { presentInput with lossCount := 8 }
     lost.inputs[9].presence ≠ .absent ∧ lost.lossTimeout ≤ lost.inputs[9].lossCount + 1 ∧
     lost.inputs[8].lossCount + 1 < lost.lossTimeout) ∧
    (bar.keys[2].pressed ≠ !((0xFB#8 : Byte).getLsbD 2) ∧ 2 ≤ bar.keys[2].disagreement) ∧
    (stepping.keys[5].pressed = true ∧ 50 ≤ stepping.keys[5].repeatCount + 1 ∧ stepping.keys[5].pressed = !((0xDF#8 : Byte).getLsbD 5)) ∧
    ([TickPart.key 5, .dwell, .loss 9].Nodup ∧ ([] : List TickPart).Nodup) ∧
    ((!(0xFF#8 : Byte).getLsbD 5) = false ∧ (stepping |> withKey 5 { stepKey with disagreement := 2 }).keys[5].disagreement = 2) := by
  decide +kernel

/-- A part whose carousel 0 is STOPPED while carousel 1 follows it and carousel 2 follows carousel 1. -/
def chained : State := beforeD16 |> withCarousel 0 { leader with state := .stopped }

theorem test_witness_CarouselsAreSetAndRead :
    chained.listening ∧ chained.CarouselLaw ∧ beforeD16.CarouselLaw ∧
    Opcode.setCarousel.argumentCount longCarousel = some longCarousel.length ∧
    Opcode.setCarousel.argumentCount [0, 0, 0, 1, 2, 0] = some 6 ∧
    (num longCarousel 0 = (3 : CarouselId).val ∧ chained.carousels[3].state = .stopped ∧ chained.carousels[3].request = .none) ∧
    beforeD16.carousels[0].state = .running ∧
    Relation.ReflTransGen (fun a b : CarouselId => chained.carousels[a].clock = .follow b) 2 0 ∧
    (∀ args ∈ [[16, 0, 0, 0, 0, 0], [0, 2, 0, 0, 0, 0], [0, 0, 2, 0, 0, 0], [0, 0, 0, 2, 0, 0], [0, 0, 0, 1, 16, 0], [0, 0, 0, 0, 0, 9],
        ([0, 0, 0, 0, 0, 1, 12, 0, 1] : List Byte)],
      Opcode.setCarousel.argumentCount args = some args.length) :=
  ⟨by decide +kernel, by decide +kernel, by decide +kernel, by decide, by decide, by decide +kernel, by decide +kernel,
    .tail (.tail .refl (show chained.carousels[(2 : CarouselId)].clock = .follow 1 by decide +kernel))
      (show chained.carousels[(1 : CarouselId)].clock = .follow 0 by decide +kernel), by decide⟩

theorem test_witness_StartAndStopSetTheRequest :
    beforeD16.listening ∧ (beforeD16.carousels[0].entries ≠ [] ∧ beforeD16.carousels[0].state = .running) ∧
    (chained.carousels[0].entries ≠ [] ∧ chained.carousels[0].state = .stopped) ∧ beforeD16.carousels[15].entries = [] := by
  decide +kernel

/-- With skip-absent: from entry 1 of three, the next PRESENT entry is entry 0 of the next round. -/
theorem test_witness_AdvanceTakesTheNextEntry :
    let c : Carousel := { leader with entries := [⟨2, 3⟩, ⟨5, 2⟩, ⟨7, 1⟩], index := 1 }
    let here : InputId → Bool := fun i => i = 2
    let ready := fun m : Nat => ∃ e, c.entries[m % 3]? = some e ∧ here e.input = true
    c.index < c.entries.length ∧ c.index + 1 < c.entries.length ∧ ({ c with index := 2 } : Carousel).index + 1 = c.entries.length ∧
    (1 < 3 ∧ 3 ≤ 1 + 3 ∧ ready 3 ∧ ∀ g, 1 < g → g < 3 → ¬ ready g) ∧ ∀ m, 1 < m → m < 3 → ¬ ready m := by
  have none2 : ¬ ∃ e, ([⟨2, 3⟩, ⟨5, 2⟩, ⟨7, 1⟩] : List Entry)[2 % 3]? = some e ∧ decide (e.input = 2) = true := by simp
  refine ⟨by decide, by decide, by decide, ⟨by decide, by decide, ⟨⟨2, 3⟩, rfl, rfl⟩, ?_⟩, ?_⟩ <;>
  · intro g h1 h2
    obtain rfl : g = 2 := by omega
    exact none2

theorem test_witness_StepsAndTimersAdvanceWithFollowers :
    beforeD16.CarouselLaw ∧ beforeD16.listening ∧
    (beforeD16.carousels[0].state = .running ∧ beforeD16.carousels[0].clock = .timer ∧ beforeD16.carousels[0].remaining = 1) ∧
    (beforeD16.carousels[1].state = .running ∧ beforeD16.carousels[1].clock = .follow 0) ∧
    (beforeD16.carousels[0].advance beforeD16.inputPresent).2 = .wrapped ∧
    (leader.advance beforeD16.inputPresent).2 = .moved ∧
    (({ leader with mode := .once, index := 1 } : Carousel).advance beforeD16.inputPresent).2 = .ended ∧
    beforeD16.carousels[15].entries = [] ∧
    ((fresh |> withCarousel 2 { leader with state := .ended }).CarouselLaw ∧
      (fresh |> withCarousel 2 { leader with state := .ended }).carousels[2].state = .ended) ∧
    (beforeD16.carousels[0].request ≠ .stop ∧ beforeD16.carousels[0].entries ≠ [] ∧ beforeD16.carousels[0].state ≠ .ended) ∧
    ({ beforeD16.carousels[0] with request := .stop } : Carousel).request = .stop := by decide +kernel

theorem test_witness_DwellTickServesTheCarousels :
    beforeD16.startup ≠ .held ∧ beforeD16.CarouselLaw ∧
    (∀ p ∈ [(CarouselState.stopped, Request.start), (.ended, .start), (.running, .stop), (.ended, .stop), (.running, .none)],
      (fresh |> withCarousel 0 { leader with state := p.1, request := p.2 }).CarouselLaw ∧
      (fresh |> withCarousel 0 { leader with state := p.1, request := p.2 }).carousels[0].state = p.1 ∧
      (fresh |> withCarousel 0 { leader with state := p.1, request := p.2 }).carousels[0].request = p.2 ∧
      1 < (fresh |> withCarousel 0 { leader with state := p.1, request := p.2 }).carousels[0].remaining) ∧
    beforeD16.carousels[0].remaining = 1 := by decide +kernel

/-- One good entry on a covered screen; an entry with an inverted rectangle; sixteen LIVE windows to capture, and seventeen. -/
theorem test_witness_ScenesAreStoredAndCaptured :
    bar.listening ∧ Opcode.storeScene.argumentCount ([5, 0x04, 1] ++ pictureRecord) = some ([5, 0x04, 1] ++ pictureRecord).length ∧
    Opcode.storeScene.argumentCount [5, 0x04, 17] = some 3 ∧ num pictureRecord 0 = (2 : ScreenId).val ∧
    (0x04#8 : Byte).getLsbD (2 : ScreenId) = true ∧ (0x03#8 : Byte).getLsbD (2 : ScreenId) = false ∧
    recordFields 2 pictureRecord = .ok (inset 2 (.input 4) (.hold 300) 12) ∧
    recordFields 2 (recordFromX 0x02 0xE4) = .error .badGeometry ∧
    bar.windows[1] = .live (inset 0 (.input 4) .slate 6) .none (feedOf 4) none ∧
    (∀ n ∈ [16, 17],
      ((List.finRange 64).filter fun h => (((List.finRange 64).take n).foldl
        (fun s g => s.setWindow g (liveWindow (plainInset 2) (feedOf 4))) fresh).windows[h].isShown).length = n) := by decide +kernel

theorem test_witness_ScenesAreClearedAndRead : bar.listening ∧ bar.scenes[4] = sceneFour := by decide +kernel

/-- A recall for the panel on screens 0 and 2, a scene that covers nothing, one that no screen takes, and a table with no FREE handle. -/
theorem test_witness_RecallsMarkPlaceAndSeal :
    bar.listening ∧ bar.scenes[3].covered = 0x00 ∧
    (∀ k ∈ [(0 : ScreenId), 2], bar.scenes[4].covered.getLsbD k = true ∧ bar.screens[k].mode ≠ .off ∧ bar.stages[k] = .empty ∧
      bar.screens[k].keypadLock = false) ∧
    bar.screens[1].keypadLock = true ∧ (∃ r, bar.recall .link 4 = .ok r ∧ r.complete = true) ∧
    (∃ r, bar.recall .panel 4 = .ok r ∧ r.complete = false) ∧
    ({ fresh with scenes := fresh.scenes.set 4 sceneFour } : State).recall .link 4 = .error .refused ∧
    ({ bar with windows := fullTable.windows } : State).recall .link 4 = .error .noHandles := by
  refine ⟨by decide +kernel, by decide +kernel, by decide +kernel, by decide +kernel, ?_, ?_, by decide +kernel, by decide +kernel⟩
  · exact ⟨⟨true, 0x07, 5, 4, (match bar.recall .link 4 with | .ok r => r.after | .error _ => bar)⟩, by decide +kernel, rfl⟩
  · exact ⟨⟨false, 0x05, 4, 2, (match bar.recall .panel 4 with | .ok r => r.after | .error _ => bar)⟩, by decide +kernel, rfl⟩

theorem test_witness_KeysAreBoundAndRead :
    bar.listening ∧ bar.keys[2].action = .recall 4 ∧ stepping.keys[5].action = .step 6 ∧ bar.keys[0].action = .none ∧
    (8 ≤ (8#8 : Byte).toNat ∧ 1 < (2#8 : Byte).toNat ∧ 3 < (4#8 : Byte).toNat ∧ (3#8 : Byte) ≠ 0 ∧ 16 ≤ (16#8 : Byte).toNat) ∧
    ((7#8 : Byte).toNat = (7 : KeyId).val ∧ KeyMode.repeating.code = 0x01 ∧ (1#8 : Byte).toNat ≤ 1 ∧ (3#8 : Byte).toNat ≤ 3 ∧
      (15#8 : Byte).toNat = (15 : CarouselId).val ∧ (15#8 : Byte).toNat = (15 : SceneId).val) := by decide +kernel

theorem test_witness_KeyEventsPerformTheAction :
    (bar.keys[2].pressed = false ∧ 2 ≤ bar.keys[2].disagreement ∧ bar.keys[2].enabled = true ∧ bar.keys[2].action = .recall 4) ∧
    (∃ r, bar.recall .panel 4 = .ok r) ∧ fresh.recall .panel 4 = .error .sceneEmpty ∧
    (fresh.keys[2].pressed = false ∧ fresh.keys[2].disagreement < 2) ∧
    (stepping.keys[5].pressed = true ∧ 49 ≤ stepping.keys[5].repeatCount ∧ stepping.keys[5].enabled = true ∧
      stepping.keys[5].mode = .repeating ∧ stepping.keys[5].acted = true ∧ stepping.keys[5].action = .step 6) ∧
    (let released := stepping |> withKey 5 { stepKey with disagreement := 2 }
     released.keys[5].pressed = true ∧ 2 ≤ released.keys[5].disagreement) ∧
    (stepping |> withKey 5 { stepKey with action := .toggle 6 }).keys[5].action = .toggle 6 ∧
    (stepping.carousels[6].request = .none ∧ stepping.carousels[6].state = .running) := by
  refine ⟨by decide +kernel, ⟨⟨false, 0x05, 4, 2, (match bar.recall .panel 4 with | .ok r => r.after | .error _ => bar)⟩, by decide +kernel⟩,
    by decide +kernel, by decide +kernel, by decide +kernel, by decide +kernel, by decide +kernel, by decide +kernel⟩

end Sys2Proof.Tests
end

section
/-! PROOFS. PROBE RESULT (R94): one equation of the command per state of the probe slot, and the fields of an answer as 11.5 lays them
out; the row of the command then follows from the law of a command row. -/

namespace Sys2Proof.Machine

/-! ### The command, slot by slot -/

theorem probeResult_badArgument {b : Byte} (s : State) (hb : 8 ≤ b.toNat) : probeResult [b] s = refuse .badArgument s := by
  have hnone : ident 8 (arg [b] 0) = none := ident_eq_none.mpr hb
  rw [probeResult, hnone]

section
variable {b : Byte} {s : State} {k : ScreenId}

theorem probeResult_empty (hk : b.toNat = k.val) (hslot : s.screens[k].probe = .empty) :
    probeResult [b] s = refuse .noProbe s := by
  have hsome : ident 8 (arg [b] 0) = some k := ident_eq_some.mpr hk
  simp only [probeResult, hsome, hslot]

theorem probeResult_waiting (hk : b.toNat = k.val) {x y : Nat} (hslot : s.screens[k].probe = .waiting x y) :
    probeResult [b] s = ⟨.pending, [], s⟩ := by
  have hsome : ident 8 (arg [b] 0) = some k := ident_eq_some.mpr hk
  simp only [probeResult, hsome, hslot]

theorem probeResult_answered (hk : b.toNat = k.val) {a : ProbeAnswer} (hslot : s.screens[k].probe = .answered a) :
    probeResult [b] s = reply a.bytes (s.setScreen k { s.screens[k] with probe := .empty }) := by
  have hsome : ident 8 (arg [b] 0) = some k := ident_eq_some.mpr hk
  simp only [probeResult, hsome, hslot]

end

/-! ### The answer fields -/

/-- The eleven bytes of 11.5: an absent sample position reads 0 in its flag, its column and its row. -/
theorem ProbeAnswer.bytes_layout (a : ProbeAnswer) :
    a.bytes = [a.outcome.code, orNone a.handle, (a.kind.map PointKind.code).getD 0x00#8,
      (a.mode.map DisplayMode.code).getD 0x00#8, flagByte a.position.isSome,
      byte ((a.position.getD (0, 0)).1 / 256), byte (a.position.getD (0, 0)).1,
      byte ((a.position.getD (0, 0)).2 / 256), byte (a.position.getD (0, 0)).2,
      byte (a.frame.toNat / 256), byte a.frame.toNat] := by
  obtain ⟨outcome, handle, kind, mode, position, frame⟩ := a
  cases position with
  | none => simp [bytes, flagByte, byte, bytes2]
  | some p => simp [bytes, flagByte, bytes2]

/-! ### The row -/

/-- PROBE RESULT has one argument byte, so that what the command answers is what its row sends. -/
theorem exec_probeResult {b : Byte} {s t : State} {code : ResultCode} {fields : List Byte} (hs : s.listening)
    (ha : probeResult [b] s = ⟨code, fields, t⟩) : exec (.probeResult [b]) s = .next (t.answers 1 code fields) :=
  exec_answers (op := .probeResult) (args := [b]) rfl hs ha

/-- Settles O45: by the number the byte carries, then by the state of the probe slot. -/
theorem probeResultIsReadOnce : Obligations.ProbeResultIsReadOnce := by
  intro b s hs
  refine ⟨fun hb => exec_probeResult hs (probeResult_badArgument s hb), fun k hk => ⟨?empty, ?waiting, ?answered⟩⟩
  case empty => exact fun hslot => exec_probeResult hs (probeResult_empty hk hslot)
  case waiting => exact fun x y hslot => exec_probeResult hs (probeResult_waiting hk hslot)
  case answered =>
    exact fun a hslot => ⟨a.bytes, exec_probeResult hs (probeResult_answered hk hslot), a.bytes_layout⟩

end Sys2Proof.Machine
end

section
/-! PROOFS. START CAROUSEL and STOP CAROUSEL (R139, R140): each leaves the carousel's record with another request, chosen by the
carousel's state; the rows of the two commands then follow from the law of a command row. -/

namespace Sys2Proof.Machine

/-! ### The record each command leaves -/

/-- R139: a START cancels what is pending at a RUNNING carousel and asks any other to start. -/
theorem Carousel.requestStart_eq (c : Carousel) :
    c.requestStart = { c with request := if c.state = .running then .none else .start } := by
  unfold Carousel.requestStart
  cases c.state <;> rfl

/-- R140: a STOP cancels what is pending at a STOPPED carousel and asks any other to stop. -/
theorem Carousel.requestStop_eq (c : Carousel) :
    c.requestStop = { c with request := if c.state = .stopped then .none else .stop } := by
  unfold Carousel.requestStop
  cases c.state <;> rfl

/-! ### The commands, by the number the byte carries -/

section
variable {b : Byte} (s : State)

theorem startCarousel_badArgument (hb : 16 ≤ b.toNat) : startCarousel [b] s = refuse .badArgument s := by
  have hnone : ident 16 (arg [b] 0) = none := ident_eq_none.mpr hb
  rw [startCarousel, hnone]

theorem stopCarousel_badArgument (hb : 16 ≤ b.toNat) : stopCarousel [b] s = refuse .badArgument s := by
  have hnone : ident 16 (arg [b] 0) = none := ident_eq_none.mpr hb
  rw [stopCarousel, hnone]

end

section
variable {b : Byte} {c : CarouselId} (s : State)

theorem startCarousel_of_toNat_eq (hc : b.toNat = c.val) : startCarousel [b] s = s.startCarousel c := by
  have hsome : ident 16 (arg [b] 0) = some c := ident_eq_some.mpr hc
  rw [startCarousel, hsome]

theorem stopCarousel_of_toNat_eq (hc : b.toNat = c.val) : stopCarousel [b] s = s.stopCarousel c := by
  have hsome : ident 16 (arg [b] 0) = some c := ident_eq_some.mpr hc
  rw [stopCarousel, hsome]

end

/-! ### What either party's START and STOP do to the part -/

section
variable {s : State} {c : CarouselId}

theorem State.startCarousel_empty (hempty : s.carousels[c].entries = []) :
    s.startCarousel c = refuse .carouselEmpty s := if_pos hempty

theorem State.startCarousel_nonempty (hentries : s.carousels[c].entries ≠ []) :
    s.startCarousel c = reply [] (s.setCarousel c
      { s.carousels[c] with request := if s.carousels[c].state = .running then .none else .start }) := by
  rw [State.startCarousel, if_neg hentries, Carousel.requestStart_eq]

theorem State.stopCarousel_eq (s : State) (c : CarouselId) :
    s.stopCarousel c = reply [] (s.setCarousel c
      { s.carousels[c] with request := if s.carousels[c].state = .stopped then .none else .stop }) := by
  rw [State.stopCarousel, Carousel.requestStop_eq]

end

/-! ### The rows -/

section
variable {b : Byte} {s t : State} {code : ResultCode} {fields : List Byte}

/-- START CAROUSEL has one argument byte, so that what the command answers is what its row sends. -/
theorem exec_startCarousel (hs : s.listening) (ha : startCarousel [b] s = ⟨code, fields, t⟩) :
    exec (.startCarousel [b]) s = .next (t.answers 1 code fields) :=
  exec_answers (op := .startCarousel) (args := [b]) rfl hs ha

/-- STOP CAROUSEL has one argument byte, so that what the command answers is what its row sends. -/
theorem exec_stopCarousel (hs : s.listening) (ha : stopCarousel [b] s = ⟨code, fields, t⟩) :
    exec (.stopCarousel [b]) s = .next (t.answers 1 code fields) :=
  exec_answers (op := .stopCarousel) (args := [b]) rfl hs ha

end

/-- Settles O52: by the number the byte carries, then by the command and, for a START, by whether the carousel has entries. -/
theorem startAndStopSetTheRequest : Obligations.StartAndStopSetTheRequest := by
  intro b s hs
  refine ⟨fun hb => ⟨exec_startCarousel hs (startCarousel_badArgument s hb), exec_stopCarousel hs (stopCarousel_badArgument s hb)⟩,
    fun c hc => ⟨?startEmpty, ?start, ?stop⟩⟩
  case startEmpty =>
    intro hempty
    exact exec_startCarousel hs ((startCarousel_of_toNat_eq s hc).trans (State.startCarousel_empty hempty))
  case start =>
    intro hentries
    have hanswer := (startCarousel_of_toNat_eq s hc).trans (State.startCarousel_nonempty hentries)
    exact ⟨_, exec_startCarousel hs hanswer, fun hrunning => if_pos hrunning, fun hother => if_neg hother⟩
  case stop =>
    have hanswer := (stopCarousel_of_toNat_eq s hc).trans (s.stopCarousel_eq c)
    exact ⟨_, exec_stopCarousel hs hanswer, fun hstopped => if_pos hstopped, fun hother => if_neg hother⟩

end Sys2Proof.Machine
end

section
/-! PROOFS. CLEAR SCENE and READ SCENE (R155): what each command answers by the number its byte carries, and the scene record of pin
reset; the rows of the two commands then follow from the law of a command row. -/

namespace Sys2Proof.Machine

/-! ### The scene record of pin reset -/

theorem State.reset_scene (n : SceneId) : State.reset.scenes[n] = ⟨0x00#8, []⟩ :=
  Vector.getElem_replicate n.isLt

/-! ### The commands, by the number the byte carries -/

section
variable {b : Byte} (s : State)

theorem clearScene_badArgument (hb : 16 ≤ b.toNat) : clearScene [b] s = refuse .badArgument s := by
  have hnone : ident 16 (arg [b] 0) = none := ident_eq_none.mpr hb
  rw [clearScene, hnone]

theorem readScene_badArgument (hb : 16 ≤ b.toNat) : readScene [b] s = refuse .badArgument s := by
  have hnone : ident 16 (arg [b] 0) = none := ident_eq_none.mpr hb
  rw [readScene, hnone]

end

section
variable {b : Byte} {n : SceneId} (s : State)

theorem clearScene_of_toNat_eq (hn : b.toNat = n.val) :
    clearScene [b] s = reply [] (s.setScene n State.reset.scenes[n]) := by
  have hsome : ident 16 (arg [b] 0) = some n := ident_eq_some.mpr hn
  rw [clearScene, hsome, State.reset_scene]

theorem readScene_of_toNat_eq (hn : b.toNat = n.val) :
    readScene [b] s = reply
      (s.scenes[n].covered :: byte s.scenes[n].entries.length :: s.scenes[n].entries.flatMap WindowFields.bytes) s := by
  have hsome : ident 16 (arg [b] 0) = some n := ident_eq_some.mpr hn
  rw [readScene, hsome]
  rfl

end

/-! ### The rows -/

section
variable {b : Byte} {s t : State} {code : ResultCode} {fields : List Byte}

/-- CLEAR SCENE has one argument byte, so that what the command answers is what its row sends. -/
theorem exec_clearScene (hs : s.listening) (ha : clearScene [b] s = ⟨code, fields, t⟩) :
    exec (.clearScene [b]) s = .next (t.answers 1 code fields) :=
  exec_answers (op := .clearScene) (args := [b]) rfl hs ha

/-- READ SCENE has one argument byte, so that what the command answers is what its row sends. -/
theorem exec_readScene (hs : s.listening) (ha : readScene [b] s = ⟨code, fields, t⟩) :
    exec (.readScene [b]) s = .next (t.answers 1 code fields) :=
  exec_answers (op := .readScene) (args := [b]) rfl hs ha

end

/-- Settles O57: by the number the byte carries, then by the command. -/
theorem scenesAreClearedAndRead : Obligations.ScenesAreClearedAndRead := by
  intro b s hs
  refine ⟨fun hb => ⟨exec_clearScene hs (clearScene_badArgument s hb), exec_readScene hs (readScene_badArgument s hb)⟩,
    fun n hn => ⟨?clear, State.reset_scene n, ?read⟩⟩
  case clear => exact exec_clearScene hs (clearScene_of_toNat_eq s hn)
  case read => exact exec_readScene hs (readScene_of_toNat_eq s hn)

end Sys2Proof.Machine
end

section
/-! PROOFS. BAD_OPCODE (R172): how the first byte of a transaction decodes where it is no whole command, and what it does at the port;
then the port while the last byte of a response and the filler are shifted out (R168, R170). -/

namespace Sys2Proof.Machine

/-! ### The first byte decoded -/

theorem Opcode.ofByte?_eq_none {b : Byte} (hb : ∀ op : Opcode, op.code ≠ b) : Opcode.ofByte? b = none :=
  List.find?_eq_none.mpr fun op _ => by simpa using hb op

theorem decodeBytes_unknown {b : Byte} (hb : ∀ op : Opcode, op.code ≠ b) : decodeBytes [b] = .unknown := by
  simp only [decodeBytes, Opcode.ofByte?_eq_none hb]

theorem decodeBytes_loneOpcode {op : Opcode} (hargs : op.argumentCount [] ≠ some 0) : decodeBytes [op.code] = .incomplete := by
  simp only [decodeBytes, Opcode.ofByte?_code]
  cases hcount : op.argumentCount [] with
  | none => rfl
  | some n =>
    have hpos : 0 < n := Nat.pos_of_ne_zero fun hn => hargs (hn ▸ hcount)
    exact if_pos hpos

/-! ### The first byte shifted in -/

section
variable {s : State}

theorem State.byteIn_addressed (hs : s.addressed) (b : Byte) : s.byteIn b = s.receiveByte b := by
  obtain ⟨hphase, -⟩ := hs
  simp only [State.byteIn, hphase]

theorem State.byteIn_unknown (hs : s.addressed) {b : Byte} (hb : ∀ op : Opcode, op.code ≠ b) :
    s.byteIn b = s.answers 0 .badOpcode [] := by
  rw [State.byteIn_addressed hs, State.receiveByte, hs.2, List.nil_append, decodeBytes_unknown hb]
  rfl

theorem State.byteIn_loneOpcode (hs : s.addressed) {op : Opcode} (hargs : op.argumentCount [] ≠ some 0) :
    s.byteIn op.code = { s with port := { s.port with received := [op.code], dataOut := s.port.dataOut ++ [0x00#8] } } := by
  rw [State.byteIn_addressed hs, State.receiveByte, hs.2, List.nil_append, decodeBytes_loneOpcode hargs]

end

/-! ### The end of a response -/

/-- After the response every byte shifted in takes out 00h and is disregarded (R168, R170). -/
theorem State.bytesIn_filler {s : State} (hfiller : s.port.phase = .filler) (bytes : List Byte) :
    s.bytesIn bytes =
      { s with port := { s.port with dataOut := s.port.dataOut ++ List.replicate bytes.length 0x00#8 } } := by
  induction bytes generalizing s with
  | nil => simp [State.bytesIn]
  | cons b rest ih =>
    have hbyte : s.byteIn b = { s with port := { s.port with dataOut := s.port.dataOut ++ [0x00#8] } } := by
      simp only [State.byteIn, hfiller]
    calc s.bytesIn (b :: rest) = (s.byteIn b).bytesIn rest := rfl
      _ = _ := by
        rw [hbyte, ih]
        · simp [List.replicate_succ]
        · exact hfiller

/-- While one response byte is left, the next byte shifted in takes it out and the bytes after that take out 00h (R168, R170). -/
theorem State.bytesIn_lastResponseByte {s : State} {r : Byte} (hsending : s.port.phase = .sending) (hlast : s.port.response = [r])
    (bytes : List Byte) :
    ∃ p : Port, s.bytesIn bytes = { s with port := p } ∧
      p.dataOut = s.port.dataOut ++ (r :: List.replicate bytes.length 0x00#8).take bytes.length := by
  cases bytes with
  | nil => exact ⟨s.port, rfl, by simp⟩
  | cons b rest =>
    have hbyte : s.byteIn b =
        { s with port := { s.port with phase := .filler, response := [], dataOut := s.port.dataOut ++ [r] } } := by
      simp only [State.byteIn, hsending, Port.sendByte, hlast]
    refine ⟨_, (congrArg (·.bytesIn rest) hbyte).trans (State.bytesIn_filler rfl rest), ?_⟩
    simp [List.take_replicate]

/-! ### The rows -/

theorem exec_instr_nil (op : Opcode) (s : State) : exec (op.instr []) s = .next (s.byteIn op.code) := by
  cases op <;> rfl

/-- Settles O17: by whether the byte names a command; for one that does not, by the bytes that follow it. -/
theorem badOpcodeIsAnsweredAtOnce : Obligations.BadOpcodeIsAnsweredAtOnce := by
  intro b s hs
  refine ⟨fun hb => ⟨?answer, ?after⟩, fun op hargs => ?lone⟩
  case answer => exact congrArg Host.Outcome.next (State.byteIn_unknown hs hb)
  case after => exact State.bytesIn_lastResponseByte rfl rfl
  case lone =>
    exact ⟨_, (exec_instr_nil op s).trans (congrArg Host.Outcome.next (State.byteIn_loneOpcode hs hargs)), rfl, rfl, rfl⟩

end Sys2Proof.Machine
end

section
/-! PROOFS. IDENTIFY and CLEAR EVENTS (R176, R183, R184): the codes of 11.5, the hold on INPUT as an event-enabled input that is ABSENT,
and which flags a clear leaves set; the rows then follow from the law of a command row. -/

namespace Sys2Proof.Machine

/-! ### IDENTIFY -/

theorem identify_eq (s : State) : identify s = reply [0xC7#8, 0x04#8, 0xB8#8, 0x01#8] s := rfl

/-- Settles O19. -/
theorem identifyReturnsTheThreeCodes : Obligations.IdentifyReturnsTheThreeCodes := fun s hs =>
  exec_answers (op := .identify) (args := []) rfl hs (identify_eq s)

/-! ### What a clear does to the flags -/

theorem Presence.isAbsent_iff {p : Presence} : p.isAbsent = true ↔ p = .absent := by
  cases p <;> simp [Presence.isAbsent]

theorem State.inputHeld_iff (s : State) : s.inputHeld = true ↔ s.inputClearHeld := by
  simp [State.inputHeld, State.inputClearHeld, Presence.isAbsent_iff]

/-- A flag stays set over a clear where it is not selected, and INPUT where its clear is held (R183, R184). -/
theorem EventUnit.clear_isSet (e : EventUnit) (selection : Byte) (held : Bool) (f : Flag) :
    (e.clear selection held).isSet f = true ↔
      e.isSet f = true ∧ (selection.getLsbD f.bit = false ∨ (f = .input ∧ held = true)) := by
  have hbit : f.bit < 8 := f.bit_lt
  have hinput : Flag.input.byte[f.bit] = decide (f = .input) := by
    rw [← BitVec.getLsbD_eq_getElem, Flag.byte_getLsbD, decide_eq_decide, eq_comm]
  cases held with
  | false => simp [EventUnit.clear, EventUnit.isSet, hbit]
  | true => simp [EventUnit.clear, EventUnit.isSet, hbit, hinput]

/-! ### CLEAR EVENTS -/

/-- Settles O24: the flags are those the clear leaves, and the bits of a held clear are those of R184. -/
theorem clearEventsClearsTheSelection : Obligations.ClearEventsClearsTheSelection := by
  intro selection s hs
  refine ⟨(s.events.clear selection s.inputHeld).flags,
    exec_answers (op := .clearEvents) (args := [selection]) rfl hs rfl, fun f => ?_⟩
  rw [← s.inputHeld_iff]
  exact s.events.clear_isSet selection s.inputHeld f

end Sys2Proof.Machine
end

section
/-! PROOFS. What a row or a reference cycle can do to the records, said once: every next state is reached by moves, each a change of one
record or of the records that one operation ties together. A law that every move keeps is kept by every step. -/

namespace Sys2Proof.Machine

/-! ### Ranges that a move keeps -/

/-- The debounce fields of a key in their ranges (R160). -/
def Key.inRange (r : Key) : Prop := r.disagreement ≤ 2 ∧ r.repeatCount < 50 ∧ (r.acted = true → r.pressed = true)

/-- The counts of the timebase in their ranges (R132). -/
def Timebase.inRange (b : Timebase) : Prop :=
  b.phase < 25 ∧ b.cycles < intervalLength b.phase ∧ b.scanTicks < 10 ∧ b.dwellTicks < 600

/-- A scene of at most 16 entries, each on a covered screen (R151). -/
def Scene.lawful (r : Scene) : Prop :=
  r.entries.length ≤ Config.maxSceneEntries ∧ ∀ f ∈ r.entries, r.covered.getLsbD f.screen = true

/-! ### The moves -/

/-- The records after a frame start of screen k, before its causes are raised (R86). -/
def State.framed (s : State) (k : ScreenId) : State :=
  let t := { s.setStage k s.stages[k].afterFrame with windows := s.frameWindows k }
  t.setScreen k (t.frameScreen k)

/-- The windows of screen k as the screen stops, with its record, before the PROBE cause (R77, R84). -/
def State.halted (s : State) (k : ScreenId) : State :=
  { s with
    windows := mapTable (fun _ w => if w.belongsTo k then w.endTransition else w) s.windows
    screens := s.screens.set k s.screens[k].stop }

/-- Carousel c advances from a remaining field of n, with its followers, before the CAROUSEL cause (R142 to R145). -/
def State.cascaded (s : State) (c : CarouselId) (n : Nat) : State :=
  { s with
    carousels :=
      (advanceChain s.inputPresent chainFuel c (s.carousels.set c { s.carousels[c] with remaining := n })).1 }

/-- The record of input i as a frame start of its feed leaves it, `b` its changed mark (R100, R107). -/
def State.begunInput (s : State) (i : InputId) (b : Bool) (f : FeedFrame) : Input :=
  ({ s.inputs[i] with
      presence := s.inputs[i].presence.atFrameStart s.inputs[i].inProgress
      changed := b
      lossCount := 0 } : Input).begin (s.writerSlot i) f

/-- The record of input i as the end of the frame leaves it, `b` its changed mark (R101, R102, R109). -/
def State.endedInput (s : State) (i : InputId) (b : Bool) (frame : FeedFrame) : Input :=
  (({ s.inputs[i] with presence := s.inputs[i].presence.atFrameEnd frame.size, changed := b } : Input).store frame).complete
    frame.size (s.inputs[i].presence.atFrameEnd frame.size).isPresent

/-- One move of row i. Only the row FRAME_START makes a frame start, PIN_RESET a reset, TRANSITION_END an end of a transition, and only
bytes on the control port stop a screen or reset the layout. -/
inductive Change (i : Instr) : State → State → Prop where
  | outside (s : State) (p : Port) (x : Startup) (lines : Byte) : Change i s { s with port := p, startup := x, keyLines := lines }
  | reset (s : State) (hi : i = .pinReset) : Change i s { State.reset with pending := s.pending }
  | events (s : State) (e : EventUnit) (h : s.events.pulseLeft ≤ pulseCycles → e.pulseLeft ≤ pulseCycles) :
      Change i s { s with events := e }
  | timebase (s : State) (b : Timebase) (h : s.timebase.inRange → b.inRange) : Change i s { s with timebase := b }
  | key (s : State) (k : KeyId) (r : Key) (h : s.keys[k].inRange → r.inRange) : Change i s (s.setKey k r)
  | scene (s : State) (n : SceneId) (r : Scene) (h : r.lawful) : Change i s (s.setScene n r)
  | expirySetting (s : State) (n : Nat) (h : n ≤ 255) : Change i s { s with expirySetting := n }
  | configureInputs (s : State) (n : Nat) (enables : InputId → Bool) :
      Change i s
        { s with
          lossTimeout := max 4 (min 25 n)
          inputs := mapTable (fun i p => { p with eventEnable := enables i }) s.inputs }
  | changedMark (s : State) (n : InputId) (b : Bool) : Change i s (s.setInput n { s.inputs[n] with changed := b })
  | lossCount (s : State) (n : InputId) (h : s.inputs[n].lossCount + 1 < s.lossTimeout) :
      Change i s (s.setInput n { s.inputs[n] with lossCount := s.inputs[n].lossCount + 1 })
  | lose (s : State) (n : InputId) (b : Bool) (h : s.inputs[n].presence.isAbsent = false) :
      Change i s (s.setInput n
        { s.inputs[n] with presence := .absent, inProgress := .none, lossCount := s.inputs[n].lossCount + 1, changed := b })
  | feedStart (s : State) (n : InputId) (b : Bool) (f : FeedFrame) : Change i s (s.setInput n (s.begunInput n b f))
  | feedEnd (s : State) (n : InputId) (b : Bool) (f : FeedFrame) (h : s.inputs[n].inProgress ≠ .none) :
      Change i s (s.setInput n (s.endedInput n b f))
  | define (s : State) (c : CarouselId) (mode : CarouselMode) (skip : Bool) (clock : Clock) (entries : List Entry)
      (hlength : entries.length ≤ Config.maxCarouselEntries) (hdwell : ∀ e ∈ entries, 1 ≤ e.dwell ∧ e.dwell ≤ 65535)
      (hcycle : closesCycle s.carousels c clock = false) :
      Change i s (s.setCarousel c (Carousel.define mode skip clock entries))
  | carousel (s : State) (c : CarouselId) (r : Carousel) (hclock : r.clock = s.carousels[c].clock)
      (h : s.carousels[c].lawful = true → r.lawful = true) : Change i s (s.setCarousel c r)
  | applyRequests (s : State) : Change i s s.applyRequests
  | cascade (s : State) (c : CarouselId) (n : Nat) (h : s.carousels[c].lawful = true → s.carousels[c].entries ≠ []) :
      Change i s (s.cascaded c n)
  | clearLayout (s : State) (hi : i.bytes ≠ none) : Change i s (resetLayout s).after
  | place (s : State) (h : Handle) (f : WindowFields) (hfree : s.windows[h] = .free)
      (hstage : s.stages[f.screen].refusal .link = none) : Change i s ((s.setWindow h (.staged f)).edited .link f.screen)
  | amend (s : State) (h : Handle) (base f : WindowFields) (hbase : s.windows[h].amendBase = .ok base)
      (hscreen : f.screen = base.screen) (hstage : s.stages[base.screen].refusal .link = none) :
      Change i s ((s.setWindow h (s.windows[h].amend f)).edited .link base.screen)
  | retire (s : State) (h : Handle) (base : WindowFields) (hbase : s.windows[h].amendBase = .ok base)
      (hstage : s.stages[base.screen].refusal .link = none) :
      Change i s ((s.setWindow h s.windows[h].retire).edited .link base.screen)
  | sealOpen (s : State) (k : ScreenId) (n : Nat) (h : s.stages[k] = .opened .link n) : Change i s (s.setStage k (.sealed .link n))
  | age (s : State) (k : ScreenId) (n : Nat) (h : s.stages[k] = .opened .link n) :
      Change i s (s.setStage k (.opened .link (nextExpiryCount n)))
  | discard (s : State) (k : ScreenId) : Change i s (s.discardStage k)
  | recallOn (s : State) (caller : Party) (es : List WindowFields) (k : ScreenId) : Change i s (s.recallScreen caller es k)
  | holdTicks (s : State) : Change i s s.holdTicks
  | endTransition (s : State) (h : Handle) (hi : i = .transitionEnd h) :
      Change i s (s.setWindow h s.windows[h].finishTransition)
  | endHold (s : State) (h : Handle) : Change i s (s.setWindow h s.windows[h].toSlated)
  | configureScreen (s : State) (k : ScreenId) (format : Format) (rate : Rate) (colour : Colour) (limit : Fin 241) (lock : Bool) :
      Change i s (s.setScreen k
        { s.screens[k] with format := format, rate := rate, background := colour, idleLimit := limit, keypadLock := lock })
  | start (s : State) (k : ScreenId) (h : s.screens[k].mode = .off) : Change i s (s.setScreen k s.screens[k].start)
  | stop (s : State) (k : ScreenId) (hi : i.bytes ≠ none) : Change i s (s.halted k)
  | probe (s : State) (k : ScreenId) (p : ProbeSlot) (h : p.isWaiting = true → s.screens[k].mode ≠ .off) :
      Change i s (s.setScreen k { s.screens[k] with probe := p })
  | minute (s : State) (k : ScreenId) :
      Change i s (s.setScreen k
        { s.screens[k] with
          idleCount := s.idleAtMinute k, mode := if s.entersStandby k then .standby else s.screens[k].mode })
  | frame (s : State) (k : ScreenId) (hi : i = .frameStart k) (h : s.screens[k].mode ≠ .off) : Change i s (s.framed k)

/-- Moves of row i one after another. -/
abbrev Moves (i : Instr) : State → State → Prop := Relation.ReflTransGen (Change i)

section
variable {i : Instr} {s t u : State}

theorem Change.moves (h : Change i s t) : Moves i s t := Relation.ReflTransGen.single h

theorem Moves.refl (s : State) : Moves i s s := Relation.ReflTransGen.refl

theorem Moves.trans (h : Moves i s t) (g : Moves i t u) : Moves i s u := Relation.ReflTransGen.trans h g

/-- What every move keeps, moves keep. -/
theorem Moves.keeps {P : State → Prop} (keeps : ∀ s t, Change i s t → P s → P t) (h : Moves i s t) (hs : P s) : P t := by
  induction h with
  | refl => exact hs
  | tail _ hlast ih => exact keeps _ _ hlast ih

theorem Moves.foldl {α : Type} (f : State → α → State) (h : ∀ s x, Moves i s (f s x)) (l : List α) (s : State) :
    Moves i s (l.foldl f s) := by
  induction l generalizing s with
  | nil => exact Moves.refl s
  | cons x l ih => exact (h s x).trans (ih _)

/-! ### The event unit and the port -/

theorem Moves.raise (s : State) (f : Flag) : Moves i s (s.raise f) :=
  (Change.events s (s.events.raise f) (EventUnit.raise_pulseLeft_le f)).moves

theorem Moves.raiseIf (s : State) (b : Bool) (f : Flag) : Moves i s (s.raiseIf b f) := by
  cases b with
  | false => exact Moves.refl s
  | true => exact Moves.raise s f

theorem Moves.pass (s : State) (n : Nat) : Moves i s { s with events := s.events.pass n } :=
  (Change.events s (s.events.pass n) fun h => Nat.le_trans (Nat.sub_le _ _) h).moves

theorem Moves.port (s : State) (p : Port) : Moves i s { s with port := p } := (Change.outside s p s.startup s.keyLines).moves

theorem Moves.startup (s : State) (x : Startup) : Moves i s { s with startup := x } :=
  (Change.outside s s.port x s.keyLines).moves

/-! ### Inputs -/

/-- A new presence is a new record of its input and, at most, the INPUT cause (R105). -/
theorem State.setPresence_eq (s : State) (n : InputId) (p : Presence) :
    ∃ (b raised : Bool), s.setPresence n p = (s.setInput n { s.inputs[n] with presence := p, changed := b }).raiseIf raised .input := by
  unfold State.setPresence State.presenceChanged
  dsimp only
  split
  · exact ⟨s.inputs[n].changed, false, rfl⟩
  · refine ⟨true, s.inputs[n].eventEnable, ?_⟩
    simp [State.setInput]

/-- A raised cause and a record of an input do not meet. -/
theorem State.raiseIf_setInput (s : State) (b : Bool) (f : Flag) (n : InputId) (p : Input) :
    (s.raiseIf b f).setInput n p = (s.setInput n p).raiseIf b f := by
  cases b <;> rfl

theorem State.setInput_setInput (s : State) (n : InputId) (p q : Input) : (s.setInput n p).setInput n q = s.setInput n q := by
  simp [State.setInput]

theorem Moves.lossTick (s : State) (n : InputId) : Moves i s (s.lossTick n) := by
  unfold State.lossTick State.losesInput
  dsimp only
  split
  · exact Moves.refl s
  · rename_i habsent
    simp only [Bool.not_eq_true] at habsent
    simp only [habsent, Bool.not_false, Bool.true_and, decide_eq_true_eq]
    split
    · obtain ⟨b, raised, hset⟩ :=
        (s.setInput n { s.inputs[n] with lossCount := s.inputs[n].lossCount + 1 }).setPresence_eq n .absent
      rw [hset, State.raiseIf_setInput, State.setInput_setInput, State.setInput_setInput]
      refine Moves.trans ?_ (Moves.raiseIf _ raised .input)
      simpa using (Change.lose s n b habsent).moves (i := i)
    · exact (Change.lossCount s n (by omega)).moves

theorem Moves.feedFrameStart (s : State) (n : InputId) (f : FeedFrame) : Moves i s (s.feedFrameStart n f) := by
  unfold State.feedFrameStart
  split
  · obtain ⟨b, raised, hset⟩ := s.setPresence_eq n (s.inputs[n].presence.atFrameStart s.inputs[n].inProgress)
    dsimp only
    rw [hset, State.raiseIf_setInput, State.setInput_setInput]
    refine Moves.trans ?_ (Moves.raiseIf _ raised .input)
    simpa [State.begunInput] using (Change.feedStart s n b f).moves (i := i)
  · exact Moves.refl s

theorem InProgress.delivered_eq_none {p : InProgress} : p.delivered = Option.none ↔ p = .none := by
  cases p <;> simp [InProgress.delivered]

theorem Moves.feedFrameEnd (s : State) (n : InputId) (f : FeedFrame) : Moves i s (s.feedFrameEnd n f) := by
  unfold State.feedFrameEnd
  split
  · rename_i d _ hd
    obtain ⟨b, raised, hset⟩ := s.setPresence_eq n (s.inputs[n].presence.atFrameEnd (d.append f).size)
    dsimp only
    rw [hset, State.raiseIf_setInput, State.setInput_setInput]
    refine Moves.trans ?_ (Moves.raiseIf _ raised .input)
    have hprogress : s.inputs[n].inProgress ≠ .none := fun h => by
      rw [InProgress.delivered_eq_none.mpr h] at hd
      exact Option.some_ne_none d hd.symm
    simpa [State.endedInput] using (Change.feedEnd s n b (d.append f) hprogress).moves (i := i)
  all_goals exact Moves.refl s

/-! ### Carousels -/

theorem Moves.advanceCarousel (s : State) (c : CarouselId) (h : s.carousels[c].lawful = true → s.carousels[c].entries ≠ []) :
    Moves i s (s.advanceCarousel c) := by
  unfold State.advanceCarousel
  refine Moves.trans ?_ (Moves.raiseIf _ _ .carousel)
  have hself : s.carousels.set c { s.carousels[c] with remaining := s.carousels[c].remaining } = s.carousels :=
    Vector.set_getElem_self c.isLt
  have hcascade := (Change.cascade s c s.carousels[c].remaining h).moves (i := i)
  unfold State.cascaded at hcascade
  rw [hself] at hcascade
  exact hcascade

/-- The law of a carousel record, its two kinds of list apart (R134, R135). -/
theorem Carousel.lawful_iff {c : Carousel} :
    c.lawful = true ↔
      c.entries.length ≤ Config.maxCarouselEntries ∧ (∀ e ∈ c.entries, 1 ≤ e.dwell ∧ e.dwell ≤ 65535) ∧
      (c.entries = [] → c.state = .stopped ∧ c.request = .none ∧ c.index = 0 ∧ c.remaining = 0) ∧
      (c.entries ≠ [] → c.index < c.entries.length ∧ 1 ≤ c.remaining ∧ c.remaining ≤ 65535) := by
  unfold Carousel.lawful
  by_cases h : c.entries = [] <;> simp [h, and_assoc]

theorem Carousel.entries_of_lawful_running {c : Carousel} (hlaw : c.lawful = true) (hstate : c.state = .running) :
    c.entries ≠ [] := by
  obtain ⟨-, -, hempty, -⟩ := Carousel.lawful_iff.mp hlaw
  intro hnil
  rw [(hempty hnil).1] at hstate
  cases hstate

theorem Carousel.counts_iff {c : Carousel} : c.counts = true ↔ c.state = .running ∧ c.clock = .timer := by
  simp [Carousel.counts]

/-- A count-down of a RUNNING TIMER carousel: its remaining field moves, or it advances with its followers (R142). -/
theorem Moves.countDown (s : State) (c : CarouselId) (h : s.carousels[c].counts = true) : Moves i s (s.countDown c) := by
  obtain ⟨hrunning, -⟩ := Carousel.counts_iff.mp h
  unfold State.countDown State.timesOut
  simp only [h, Bool.true_and, decide_eq_true_eq]
  split
  · unfold State.advanceCarousel
    exact Moves.trans
      (Change.cascade s c (s.carousels[c].remaining - 1) fun hlaw => Carousel.entries_of_lawful_running hlaw hrunning).moves
      (Moves.raiseIf _ _ .carousel)
  · refine (Change.carousel s c { s.carousels[c] with remaining := s.carousels[c].remaining - 1 } rfl fun hlaw => ?_).moves
    have hne := Carousel.entries_of_lawful_running hlaw hrunning
    obtain ⟨hlength, hdwell, -, hindex⟩ := Carousel.lawful_iff.mp hlaw
    obtain ⟨hlt, -, hle⟩ := hindex hne
    exact Carousel.lawful_iff.mpr ⟨hlength, hdwell, fun hnil => absurd hnil hne, fun _ => ⟨hlt, by dsimp only; omega, by dsimp only; omega⟩⟩

theorem Carousel.followsRunning_iff {c : Carousel} {k : CarouselId} :
    c.followsRunning k = true ↔ c.state = .running ∧ c.clock = .follow k := by
  simp [Carousel.followsRunning]

/-- A cascade leaves every TIMER carousel but its first as it is (R145). -/
theorem advanceChain_timer (present : InputId → Bool) (fuel : Nat) (k : CarouselId) (cs : Vector Carousel 16) {f : CarouselId}
    (hclock : cs[f].clock = .timer) (hne : f ≠ k) : (advanceChain present fuel k cs).1[f] = cs[f] := by
  induction fuel generalizing k cs with
  | zero => rfl
  | succ fuel ih =>
    have hfirst : (cs.set k (cs[k].advance present).1)[f] = cs[f] := vector_get_set_ne cs _ hne.symm
    have hfold : ∀ (l : List CarouselId) (acc : Vector Carousel 16 × Bool), acc.1[f] = cs[f] →
        (l.foldl
          (fun acc g =>
            if acc.1[g].followsRunning k then
              let q := advanceChain present fuel g acc.1
              (q.1, acc.2 || q.2)
            else acc) acc).1[f] = cs[f] := by
      intro l
      induction l with
      | nil => exact fun acc hacc => hacc
      | cons g l ihl =>
        intro acc hacc
        refine ihl _ ?_
        dsimp only
        split
        · rename_i hfollows
          have hgf : f ≠ g := by
            rintro rfl
            obtain ⟨-, hfollow⟩ := Carousel.followsRunning_iff.mp hfollows
            rw [hacc, hclock] at hfollow
            cases hfollow
          exact (ih g acc.1 (by rw [hacc, hclock]) hgf).trans hacc
        · exact hacc
    unfold advanceChain
    dsimp only
    split
    · exact hfirst
    · exact hfirst
    · exact hfirst
    · exact hfold _ _ hfirst

/-- The count-down of one carousel leaves the other TIMER carousels as they are. -/
theorem State.countDown_timer (s : State) (c : CarouselId) {f : CarouselId} (hclock : s.carousels[f].clock = .timer) (hne : f ≠ c) :
    (s.countDown c).carousels[f] = s.carousels[f] := by
  have hset : (s.setCarousel c { s.carousels[c] with remaining := s.carousels[c].remaining - 1 }).carousels[f] = s.carousels[f] :=
    vector_get_set_ne s.carousels _ hne.symm
  unfold State.countDown
  dsimp only
  split
  · have hchain := advanceChain_timer (s.setCarousel c { s.carousels[c] with remaining := s.carousels[c].remaining - 1 }).inputPresent
      chainFuel c _ (by rw [hset, hclock]) hne
    unfold State.advanceCarousel
    simp only [State.raiseIf_carousels]
    exact hchain.trans hset
  · exact hset

theorem Moves.carouselTick (s : State) : Moves i s s.carouselTick := by
  unfold State.carouselTick
  refine Moves.trans (Change.applyRequests s).moves ?_
  have hfold : ∀ (l : List CarouselId) (u : State), l.Nodup →
      (∀ c ∈ l, s.applyRequests.carousels[c].counts = true → u.carousels[c].counts = true) →
      Moves i u (l.foldl
        (fun u c => if s.carousels[c].counts && s.applyRequests.carousels[c].counts then u.countDown c else u) u) := by
    intro l
    induction l with
    | nil => exact fun u _ _ => Moves.refl u
    | cons c l ih =>
      intro u hnodup hcounts
      obtain ⟨hc, hl⟩ := List.nodup_cons.mp hnodup
      rw [List.foldl_cons]
      split
      · rename_i hdue
        have hdue' := hcounts c (List.mem_cons_self ..) (Bool.and_eq_true_iff.mp hdue).2
        refine Moves.trans (Moves.countDown u c hdue') (ih _ hl fun f hf hcf => ?_)
        have huf := hcounts f (List.mem_cons_of_mem _ hf) hcf
        rwa [State.countDown_timer u c (Carousel.counts_iff.mp huf).2 (fun h => hc (h ▸ hf))]
      · exact ih u hl fun f hf => hcounts f (List.mem_cons_of_mem _ hf)
  exact hfold _ _ (List.nodup_finRange 16) fun _ _ h => h

/-- Another request at a carousel with entries, or at one where none is left pending. -/
theorem Moves.request (s : State) (c : CarouselId) (q : Request)
    (h : s.carousels[c].entries = [] → s.carousels[c].state = .stopped → q = .none) :
    Moves i s (s.setCarousel c { s.carousels[c] with request := q }) := by
  refine (Change.carousel s c { s.carousels[c] with request := q } rfl fun hlaw => ?_).moves
  obtain ⟨hlength, hdwell, hempty, hindex⟩ := Carousel.lawful_iff.mp hlaw
  refine Carousel.lawful_iff.mpr ⟨hlength, hdwell, fun hnil => ?_, hindex⟩
  obtain ⟨hstate, -, hzero⟩ := hempty hnil
  exact ⟨hstate, h hnil hstate, hzero⟩

/-- START and STOP of a carousel by either party ask for another state, and no more (R139, R140). -/
theorem Moves.startCarousel (s : State) (c : CarouselId) : Moves i s (s.startCarousel c).after := by
  by_cases hentries : s.carousels[c].entries = []
  · rw [State.startCarousel_empty hentries]
    exact Moves.refl s
  · rw [State.startCarousel_nonempty hentries]
    exact Moves.request s c _ fun hnil => absurd hnil hentries

theorem Moves.stopCarousel (s : State) (c : CarouselId) : Moves i s (s.stopCarousel c).after := by
  rw [State.stopCarousel_eq]
  exact Moves.request s c _ fun _ hstopped => if_pos hstopped

theorem Moves.stepCarousel (s : State) (c : CarouselId) : Moves i s (s.stepCarousel c).after := by
  unfold State.stepCarousel
  split
  · exact Moves.refl s
  · rename_i hentries
    split
    · exact Moves.refl s
    · exact Moves.advanceCarousel s c fun _ => hentries

/-! ### Stages, screens and the ticks -/

theorem Moves.stageTick (s : State) (k : ScreenId) : Moves i s (s.stageTick k) := by
  unfold State.stageTick
  split
  · rename_i n hstage
    split
    · exact (Change.discard s k).moves.trans (Moves.raise _ .expired)
    · exact (Change.age s k n hstage).moves
  all_goals exact Moves.refl s

theorem Moves.minuteAt (s : State) (k : ScreenId) : Moves i s (s.minuteAt k) := by
  have hminute := (Change.minute s k).moves (i := i)
  unfold State.minuteAt
  dsimp only
  by_cases henters : s.entersStandby k = true
  · rw [if_pos henters] at hminute ⊢
    exact hminute.trans (Moves.raise _ .standby)
  · rw [if_neg henters] at hminute ⊢
    exact hminute

theorem Moves.minute (s : State) : Moves i s s.minute := Moves.foldl State.minuteAt Moves.minuteAt _ s

theorem Timebase.dwell_inRange {b : Timebase} (h : b.inRange) : b.dwell.inRange := by
  obtain ⟨hphase, hcycles, hscan, -⟩ := h
  exact ⟨hphase, hcycles, hscan, Nat.mod_lt _ (by decide)⟩

theorem Timebase.scan_inRange {b : Timebase} (h : b.inRange) : b.scan.inRange := by
  obtain ⟨-, -, -, hdwell⟩ := h
  refine ⟨Nat.mod_lt _ (by decide), ?_, Nat.mod_lt _ (by decide), hdwell⟩
  show 0 < intervalLength _
  unfold intervalLength
  split <;> decide

theorem Moves.dwellTick (s : State) : Moves i s s.dwellTick := by
  unfold State.dwellTick
  have hparts : Moves i s ((List.finRange 8).foldl State.stageTick
      ({ s with timebase := s.timebase.dwell } : State).holdTicks).carouselTick :=
    calc Moves i s _ := (Change.timebase s s.timebase.dwell Timebase.dwell_inRange).moves
      Moves i _ _ := (Change.holdTicks _).moves
      Moves i _ _ := Moves.foldl State.stageTick Moves.stageTick _ _
      Moves i _ _ := Moves.carouselTick _
  dsimp only
  split
  · exact hparts.trans (Moves.minute _)
  · exact hparts

/-! ### Recalls and keys -/

theorem Moves.recall {caller : Party} {n : SceneId} {r : Recalled} (h : s.recall caller n = .ok r) : Moves i s r.after := by
  unfold State.recall at h
  dsimp only at h
  split at h <;> [cases h; split at h <;> [cases h; split at h <;> [cases h; skip]]]
  cases h
  exact Moves.foldl _ (fun u k => (Change.recallOn u caller _ k).moves) _ s

theorem Moves.keyAction (s : State) (k : KeyId) : Moves i s (s.keyAction k) := by
  have hrecord : ∀ (o : KeyOutcome) (t : State), Moves i s t →
      Moves i s ((t.setKey k { t.keys[k] with outcome := o }).raise .key) := fun o t ht =>
    ht.trans ((Change.key t k { t.keys[k] with outcome := o } id).moves.trans (Moves.raise _ .key))
  unfold State.keyAction
  split
  · exact Moves.refl s
  · rename_i o t hperform
    refine hrecord o t ?_
    unfold State.performAction at hperform
    split at hperform
    · cases hperform
    · split at hperform
      · cases hperform
        exact Moves.refl s
      · rename_i r hrecall
        cases hperform
        exact Moves.recall hrecall
    · cases hperform
      exact Moves.stepCarousel s _
    · cases hperform
      split
      · exact Moves.stopCarousel s _
      · exact Moves.startCarousel s _

theorem Key.changesAt_iff {r : Key} {low : Bool} : r.changesAt low = true ↔ r.pressed ≠ low ∧ 2 ≤ r.disagreement := by
  simp [Key.changesAt, debounceSamples]

theorem Key.reachesRepeat_iff {r : Key} : r.reachesRepeat = true ↔ 49 ≤ r.repeatCount := by
  simp [Key.reachesRepeat, repeatAt]

theorem Moves.pressKey (s : State) (k : KeyId) : Moves i s (s.pressKey k) := by
  unfold State.pressKey
  have hpressed := (Change.key s k
    { s.keys[k] with pressed := true, disagreement := 0, repeatCount := 0, acted := s.keys[k].enabled }
    fun _ => ⟨Nat.zero_le 2, Nat.zero_lt_succ 49, fun _ => rfl⟩).moves (i := i)
  dsimp only
  split
  · exact hpressed.trans (Moves.keyAction _ k)
  · exact hpressed

theorem Moves.releaseKey (s : State) (k : KeyId) : Moves i s (s.releaseKey k) :=
  (Change.key s k { s.keys[k] with pressed := false, disagreement := 0, repeatCount := 0, acted := false }
    fun _ => ⟨Nat.zero_le 2, Nat.zero_lt_succ 49, fun h => h⟩).moves

theorem Moves.repeatKey (s : State) (k : KeyId) : Moves i s (s.repeatKey k) := by
  unfold State.repeatKey
  dsimp only
  split
  · have hrepeat := (Change.key s k { s.keys[k] with repeatCount := repeatFrom }
      fun h => ⟨h.1, show 30 < 50 by decide, h.2.2⟩).moves (i := i)
    split
    · exact hrepeat.trans (Moves.keyAction _ k)
    · exact hrepeat
  · rename_i hlow
    have hcount : s.keys[k].repeatCount + 1 < 50 := by
      rw [Key.reachesRepeat_iff] at hlow
      omega
    exact (Change.key s k { s.keys[k] with repeatCount := s.keys[k].repeatCount + 1 } fun h => ⟨h.1, hcount, h.2.2⟩).moves

theorem Moves.keyTick (s : State) (k : KeyId) (low : Bool) : Moves i s (s.keyTick k low) := by
  unfold State.keyTick
  dsimp only
  split
  · split
    · exact Moves.pressKey s k
    · exact Moves.releaseKey s k
  · rename_i hsame
    rw [Key.changesAt_iff, not_and] at hsame
    have hsample := (Change.key s k
      { s.keys[k] with disagreement := if s.keys[k].pressed = low then 0 else s.keys[k].disagreement + 1 } fun h => by
        refine ⟨?_, h.2⟩
        dsimp only
        split
        · exact Nat.zero_le 2
        · rename_i hdiffers
          have := hsame hdiffers
          omega).moves (i := i)
    split
    · exact hsample.trans (Moves.repeatKey _ k)
    · exact hsample

/-! ### The scan tick and the cycle -/

theorem Moves.scanTick (s : State) (first : List TickPart) (lines : Byte) : Moves i s (s.scanTick first lines) := by
  unfold State.scanTick
  have hcounts : Moves i s
      { s with timebase := s.timebase.scan, events := s.events.pass s.timebase.cyclesLeft, keyLines := lines } :=
    calc Moves i s _ := (Change.timebase s s.timebase.scan Timebase.scan_inRange).moves
      Moves i _ _ := Moves.pass _ s.timebase.cyclesLeft
      Moves i _ _ := (Change.outside _ s.port s.startup lines).moves
  refine hcounts.trans (Moves.foldl _ (fun u part => ?_) _ _)
  cases part with
  | loss n => exact Moves.lossTick u n
  | key k => exact Moves.keyTick u k _
  | dwell =>
    unfold State.tickPart
    dsimp only
    split
    · exact Moves.dwellTick u
    · exact Moves.refl u

theorem Moves.cycle (s : State) : Moves i s s.cycle := by
  obtain ⟨hinside, heq⟩ | ⟨-, heq⟩ := s.cycle_cases
  · rw [heq]
    refine Moves.trans (Change.timebase s { s.timebase with cycles := s.timebase.cycles + 1 } fun h => ?_).moves (Moves.pass _ 1)
    exact ⟨h.1, hinside, h.2.2⟩
  · rw [heq]
    exact Moves.scanTick s [] s.keyLines

theorem Moves.idle (s : State) : Moves i s s.idle := by
  unfold State.idle
  split
  · exact Moves.refl s
  · exact Moves.cycle s

theorem Moves.runPulse (fuel : Nat) (s : State) : Moves i s (s.runPulse fuel) := by
  induction fuel generalizing s with
  | zero => exact Moves.refl s
  | succ fuel ih =>
    unfold State.runPulse
    split
    · exact Moves.refl s
    · exact (Moves.cycle s).trans (ih _)

/-! ### Commands -/

/-- The groups of a record that are stored leave the screen of the copy (R4, R14). -/
theorem editFields_screen {mask : BitVec 16} {r : List Byte} {base f : WindowFields} (h : editFields mask r base = .ok f) :
    f.screen = base.screen := by
  unfold editFields at h
  split at h
  · cases h
  · split at h
    · cases h
    · split at h
      · cases h
      · cases h
        rfl

theorem recordFields_screen {k : ScreenId} {r : List Byte} {f : WindowFields} (h : recordFields k r = .ok f) : f.screen = k :=
  editFields_screen h

theorem Moves.placeWindow (args : List Byte) (s : State) : Moves i s (placeWindow args s).after := by
  unfold Machine.placeWindow
  split
  · exact Moves.refl s
  · rename_i k _
    split
    · exact Moves.refl s
    · rename_i hstage
      split
      · exact Moves.refl s
      · rename_i h hfree
        split
        · exact Moves.refl s
        · rename_i f hfields
          obtain rfl : f.screen = k := recordFields_screen hfields
          exact (Change.place s h f (Window.isFree_iff.mp (State.lowestFree_eq_some.mp hfree).1) hstage).moves

theorem Moves.amendWindow (args : List Byte) (s : State) : Moves i s (amendWindow args s).after := by
  unfold Machine.amendWindow
  split
  · exact Moves.refl s
  · rename_i h _
    split
    · exact Moves.refl s
    · rename_i base hbase
      split
      · exact Moves.refl s
      · rename_i hstage
        split
        · exact Moves.refl s
        · rename_i f hfields
          exact (Change.amend s h base f hbase (editFields_screen hfields) hstage).moves

theorem Moves.retireWindow (args : List Byte) (s : State) : Moves i s (retireWindow args s).after := by
  unfold Machine.retireWindow
  split
  · exact Moves.refl s
  · rename_i h _
    split
    · exact Moves.refl s
    · rename_i base hbase
      split
      · exact Moves.refl s
      · rename_i hstage
        exact (Change.retire s h base hbase hstage).moves

theorem Moves.sealStage (args : List Byte) (s : State) : Moves i s (sealStage args s).after := by
  unfold Machine.sealStage
  split
  · exact Moves.refl s
  · rename_i k _
    split
    · exact Moves.refl s
    · split
      case h_4 n hstage => exact (Change.sealOpen s k n hstage).moves
      all_goals exact Moves.refl s

theorem Moves.discardStage (args : List Byte) (s : State) : Moves i s (discardStage args s).after := by
  unfold Machine.discardStage
  split
  · exact Moves.refl s
  · rename_i k _
    split
    case h_4 n hstage => exact (Change.discard s k).moves
    all_goals exact Moves.refl s

theorem num_le (args : List Byte) (n : Nat) : num args n ≤ 255 := Nat.le_of_lt_succ (arg args n).isLt

theorem Moves.configureScreen (args : List Byte) (s : State) : Moves i s (configureScreen args s).after := by
  unfold Machine.configureScreen
  split
  · exact Moves.refl s
  · rename_i k _
    split
    · exact Moves.refl s
    · rename_i format _
      split
      · exact Moves.refl s
      · rename_i rate _
        split
        · exact Moves.refl s
        · rename_i lock _
          dsimp only
          split
          · exact Moves.refl s
          · exact (Change.configureScreen s k format rate (colourAt args 3) (clamp 240 (num args 6)) lock).moves

theorem Moves.startScreen (args : List Byte) (s : State) : Moves i s (startScreen args s).after := by
  unfold Machine.startScreen
  split
  · exact Moves.refl s
  · rename_i k _
    split
    · rename_i hoff
      exact (Change.start s k hoff).moves
    · exact Moves.refl s

theorem Moves.stopScreen (hi : i.bytes ≠ none) (args : List Byte) (s : State) : Moves i s (stopScreen args s).after := by
  unfold Machine.stopScreen
  split
  · exact Moves.refl s
  · rename_i k _
    split
    · exact Moves.refl s
    · exact (Change.stop s k hi).moves.trans (Moves.raiseIf _ _ .probe)

theorem Moves.probePoint (args : List Byte) (s : State) : Moves i s (probePoint args s).after := by
  unfold Machine.probePoint
  split
  · exact Moves.refl s
  · rename_i k _
    dsimp only
    split
    · split
      · exact Moves.refl s
      · rename_i hmode
        split
        · exact Moves.refl s
        · exact (Change.probe s k (.waiting _ _) fun _ => hmode).moves
    · exact Moves.refl s

theorem Moves.probeResult (args : List Byte) (s : State) : Moves i s (probeResult args s).after := by
  unfold Machine.probeResult
  split
  · exact Moves.refl s
  · rename_i k _
    split
    case h_3 => exact (Change.probe s k .empty fun h => by cases h).moves
    all_goals exact Moves.refl s

theorem Moves.readInput (args : List Byte) (s : State) : Moves i s (readInput args s).after := by
  unfold Machine.readInput
  split
  · exact Moves.refl s
  · rename_i n _
    exact (Change.changedMark s n false).moves

theorem num2_le (args : List Byte) (n : Nat) : num2 args n ≤ 65535 := by
  have hhigh := num_le args n
  have hlow := num_le args (n + 1)
  unfold num2
  omega

theorem arg_drop (args : List Byte) (m n : Nat) : arg (args.drop m) n = arg args (m + n) := by
  simp [arg, List.getD_eq_getElem?_getD, List.getElem?_drop]

theorem num_drop (args : List Byte) (m n : Nat) : num (args.drop m) n = num args (m + n) := by
  rw [num, arg_drop, num]

theorem num2_drop (args : List Byte) (m n : Nat) : num2 (args.drop m) n = num2 args (m + n) := by
  rw [num2, num_drop, num_drop, num2, Nat.add_assoc]

/-- The entries of a SET CAROUSEL are read in turn, three bytes each (R135, R136). -/
theorem entriesOf_eq_some {args : List Byte} {n : Nat} {es : List Entry} (h : entriesOf args n = some es) :
    es.length = n ∧
      ∀ (m : Nat) (e : Entry), es[m]? = some e → e.input.val = num args (3 * m) ∧ e.dwell = max 1 (num2 args (3 * m + 1)) := by
  induction n generalizing args es with
  | zero =>
    cases h
    exact ⟨rfl, fun m e he => by simp at he⟩
  | succ n ih =>
    unfold entriesOf at h
    split at h
    · rename_i input rest hinput hrest
      cases h
      obtain ⟨hlength, hget⟩ := ih hrest
      refine ⟨by simp [hlength], fun m e he => ?_⟩
      cases m with
      | zero =>
        cases he
        exact ⟨(ident_eq_some.mp hinput).symm, rfl⟩
      | succ m =>
        obtain ⟨hin, hdwell⟩ := hget m e he
        rw [num_drop] at hin
        rw [num2_drop] at hdwell
        rw [show 3 * (m + 1) = 3 + 3 * m by omega, show 3 + 3 * m + 1 = 3 + (3 * m + 1) by omega]
        exact ⟨hin, hdwell⟩
    · cases h

theorem entriesOf_dwell {args : List Byte} {n : Nat} {es : List Entry} (h : entriesOf args n = some es) :
    ∀ e ∈ es, 1 ≤ e.dwell ∧ e.dwell ≤ 65535 := by
  intro e he
  obtain ⟨m, hm⟩ := List.mem_iff_getElem?.mp he
  obtain ⟨-, hdwell⟩ := (entriesOf_eq_some h).2 m e hm
  have hle := num2_le args (3 * m + 1)
  rw [hdwell]
  omega

theorem Moves.setCarousel (args : List Byte) (s : State) : Moves i s (setCarousel args s).after := by
  unfold Machine.setCarousel
  split
  · exact Moves.refl s
  · rename_i c _
    split
    · rename_i mode skip code _ _ _
      split
      · exact Moves.refl s
      · rename_i clock _
        split
        · exact Moves.refl s
        · rename_i hcount
          split
          · exact Moves.refl s
          · rename_i entries hentries
            split
            · exact Moves.refl s
            · split
              · exact Moves.refl s
              · rename_i hcycle
                refine (Change.define s c mode skip clock entries ?_ (entriesOf_dwell hentries) (by simpa using hcycle)).moves
                rw [(entriesOf_eq_some hentries).1]
                exact Nat.le_of_not_lt hcount
    · exact Moves.refl s

/-! ### Scenes -/

theorem recordsOf_length (args : List Byte) (n : Nat) : (recordsOf args n).length = n := by
  induction n generalizing args with
  | zero => rfl
  | succ n ih => simp [recordsOf, ih]

theorem recordsOf_getElem? {args : List Byte} {n j : Nat} (hj : j < n) :
    (recordsOf args n)[j]? = some ((args.drop (34 * j)).take 34) := by
  induction n generalizing args j with
  | zero => omega
  | succ n ih =>
    cases j with
    | zero => rfl
    | succ j =>
      rw [recordsOf, List.getElem?_cons_succ, ih (by omega), List.drop_drop, show 34 + 34 * j = 34 * (j + 1) by omega]

/-- The screens of all entries, each a covered one (R152). -/
theorem entryScreens_eq_some {covered : Byte} {rs : List (List Byte)} {ks : List ScreenId} (h : entryScreens covered rs = some ks) :
    List.Forall₂ (fun r k => coveredScreen covered r = some k) rs ks := by
  induction rs generalizing ks with
  | nil =>
    cases h
    exact .nil
  | cons r rs ih =>
    unfold entryScreens at h
    split at h
    · rename_i k rest hk hrest
      cases h
      exact .cons hk (ih hrest)
    · cases h

theorem coveredScreen_eq_some {covered : Byte} {r : List Byte} {k : ScreenId} :
    coveredScreen covered r = some k ↔ num r 0 = k.val ∧ covered.getLsbD k = true := by
  unfold coveredScreen
  constructor
  · intro h
    split at h
    · cases h
    · rename_i m hm
      split at h
      · rename_i hcovered
        cases h
        exact ⟨ident_eq_some.mp hm, hcovered⟩
      · cases h
  · rintro ⟨hk, hcovered⟩
    rw [ident_eq_some.mpr hk]
    exact if_pos hcovered

/-- The fields of all entries, each read for its own screen (R152). -/
theorem entryFields_eq_ok {covered : Byte} {rs : List (List Byte)} {ks : List ScreenId} {fs : List WindowFields}
    (hks : List.Forall₂ (fun r k => coveredScreen covered r = some k) rs ks) (h : entryFields ks rs = .ok fs) :
    List.Forall₂ (fun r f => ∃ k, coveredScreen covered r = some k ∧ recordFields k r = .ok f) rs fs := by
  induction hks generalizing fs with
  | nil =>
    cases h
    exact .nil
  | @cons r k rs ks hk _ ih =>
    unfold entryFields at h
    split at h
    · cases h
    · rename_i f hf
      split at h
      · cases h
      · rename_i rest hrest
        cases h
        exact .cons ⟨k, hk, hf⟩ (ih hrest)

theorem Moves.storeScene (args : List Byte) (s : State) : Moves i s (storeScene args s).after := by
  unfold Machine.storeScene
  split
  · exact Moves.refl s
  · rename_i n _
    split
    · exact Moves.refl s
    · rename_i hcount
      dsimp only
      split
      · exact Moves.refl s
      · rename_i screens hscreens
        split
        · exact Moves.refl s
        · rename_i fields hfields
          have hall := entryFields_eq_ok (entryScreens_eq_some hscreens) hfields
          refine (Change.scene s n ⟨arg args 1, fields⟩ ⟨?_, fun f hf => ?_⟩).moves
          · show fields.length ≤ _
            rw [← hall.length_eq, recordsOf_length]
            exact Nat.le_of_not_lt hcount
          · obtain ⟨m, hm, rfl⟩ := List.mem_iff_getElem.mp hf
            obtain ⟨k, hk, hrecord⟩ := hall.get (by rw [hall.length_eq]; exact hm) hm
            have hscreen : fields[m].screen = k := recordFields_screen hrecord
            rw [hscreen]
            exact (coveredScreen_eq_some.mp hk).2

theorem Window.captured_eq_some {w : Window} {c : WindowFields} :
    w.captured = some c ↔ ∃ p v x, w = .live c p v x ∧ p ≠ .retire ∧ c.pinned = false := by
  unfold Window.captured
  split <;> simp <;> grind

/-- The gathered windows of a screen are of that screen (R154). -/
theorem State.mem_gatherScreen {s : State} {k : ScreenId} {f : WindowFields} :
    f ∈ s.gatherScreen k ↔ f.screen = k ∧ ∃ h : Handle, s.windows[h].captured = some f := by
  unfold State.gatherScreen State.screenList
  simp only [List.mem_filterMap, mem_stackOrder]
  constructor
  · rintro ⟨h, hlist, hcaptured⟩
    obtain ⟨p, v, x, hw, -⟩ := Window.captured_eq_some.mp hcaptured
    refine ⟨?_, h, hcaptured⟩
    by_contra hk
    rw [hw] at hlist
    simp [Window.belongsTo, Window.screen, hk] at hlist
  · rintro ⟨rfl, h, hcaptured⟩
    obtain ⟨p, v, x, hw, -⟩ := Window.captured_eq_some.mp hcaptured
    refine ⟨h, ?_, hcaptured⟩
    rw [hw]
    simp [Window.belongsTo, Window.screen, Window.listLayer]

theorem Moves.captureScene (args : List Byte) (s : State) : Moves i s (captureScene args s).after := by
  unfold Machine.captureScene
  split
  · exact Moves.refl s
  · rename_i n _
    dsimp only
    split
    · exact Moves.refl s
    · rename_i hcount
      refine (Change.scene s n ⟨arg args 1, s.gather (arg args 1)⟩ ⟨Nat.le_of_not_lt hcount, fun f hf => ?_⟩).moves
      obtain ⟨k, -, hk⟩ := List.mem_flatMap.mp hf
      split at hk
      · rename_i hcovered
        obtain ⟨rfl, -⟩ := State.mem_gatherScreen.mp hk
        exact hcovered
      · simp at hk

theorem Moves.clearScene (args : List Byte) (s : State) : Moves i s (clearScene args s).after := by
  unfold Machine.clearScene
  split
  · exact Moves.refl s
  · rename_i n _
    exact (Change.scene s n ⟨0x00#8, []⟩ ⟨Nat.zero_le _, fun f hf => by cases hf⟩).moves

theorem Moves.recallScene (args : List Byte) (s : State) : Moves i s (recallScene args s).after := by
  unfold Machine.recallScene
  split
  · exact Moves.refl s
  · split
    · exact Moves.refl s
    · rename_i r hrecall
      exact Moves.recall hrecall

theorem Moves.bindKey (args : List Byte) (s : State) : Moves i s (bindKey args s).after := by
  unfold Machine.bindKey
  split
  · exact Moves.refl s
  · rename_i k _
    split
    · rename_i enabled mode _ _
      split
      · exact Moves.refl s
      · rename_i action _
        exact (Change.key s k { s.keys[k] with enabled := enabled, mode := mode, action := action, outcome := .none } id).moves
    · exact Moves.refl s

/-! ### The event commands -/

theorem Moves.readEvents (s : State) : Moves i s (readEvents s).after := by
  unfold Machine.readEvents
  dsimp only [reply]
  split
  · exact (Change.events s (s.events.clear s.events.flags s.inputHeld) id).moves
  · exact Moves.refl s

theorem Moves.clearEvents (args : List Byte) (s : State) : Moves i s (clearEvents args s).after :=
  (Change.events s (s.events.clear (arg args 0) s.inputHeld) id).moves

theorem Moves.setEventControl (args : List Byte) (s : State) : Moves i s (setEventControl args s).after := by
  unfold Machine.setEventControl
  split
  · rename_i line clear sensitivity _ _ _
    refine (Change.events s (s.events.configure (arg args 0) line clear sensitivity) fun h => ?_).moves
    unfold EventUnit.configure
    dsimp only
    split
    · exact h
    · exact Nat.zero_le _
  · exact Moves.refl s

/-! ### A command, a row, a step -/

theorem Moves.runCommand (op : Opcode) (args : List Byte) (s : State)
    (hi : i.bytes ≠ none ∨ op ≠ .resetLayout ∧ op ≠ .stopScreen) :
    Moves i s (runCommand op args s).after := by
  cases op with
  | resetLayout => exact (Change.clearLayout s (hi.resolve_right fun h => h.1 rfl)).moves
  | placeWindow => exact Moves.placeWindow args s
  | amendWindow => exact Moves.amendWindow args s
  | retireWindow => exact Moves.retireWindow args s
  | sealStage => exact Moves.sealStage args s
  | discardStage => exact Moves.discardStage args s
  | configureStages => exact (Change.expirySetting s (num args 0) (num_le args 0)).moves
  | configureScreen => exact Moves.configureScreen args s
  | startScreen => exact Moves.startScreen args s
  | stopScreen => exact Moves.stopScreen (hi.resolve_right fun h => h.2 rfl) args s
  | probePoint => exact Moves.probePoint args s
  | probeResult => exact Moves.probeResult args s
  | configureInputs =>
    exact (Change.configureInputs s (num args 0) fun n => (BitVec.ofNat 16 (num2 args 1)).getLsbD n).moves
  | readInput => exact Moves.readInput args s
  | setCarousel => exact Moves.setCarousel args s
  | startCarousel =>
    show Moves i s (Machine.startCarousel args s).after
    unfold Machine.startCarousel
    split
    · exact Moves.refl s
    · exact Moves.startCarousel s _
  | stopCarousel =>
    show Moves i s (Machine.stopCarousel args s).after
    unfold Machine.stopCarousel
    split
    · exact Moves.refl s
    · exact Moves.stopCarousel s _
  | stepCarousel =>
    show Moves i s (Machine.stepCarousel args s).after
    unfold Machine.stepCarousel
    split
    · exact Moves.refl s
    · exact Moves.stepCarousel s _
  | storeScene => exact Moves.storeScene args s
  | captureScene => exact Moves.captureScene args s
  | clearScene => exact Moves.clearScene args s
  | recallScene => exact Moves.recallScene args s
  | bindKey => exact Moves.bindKey args s
  | readEvents => exact Moves.readEvents s
  | clearEvents => exact Moves.clearEvents args s
  | setEventControl => exact Moves.setEventControl args s
  | identify | readKeys => exact Moves.refl s
  | readWindow =>
    show Moves i s (readWindow args s).after
    unfold readWindow
    repeat' split
    all_goals exact Moves.refl s
  | listScreen | readStage | readScreen | readCarousel | readScene =>
    simp only [Machine.runCommand, listScreen, readStage, readScreen, readCarousel, readScene]
    split <;> exact Moves.refl s

theorem Moves.takeCommand (op : Opcode) (args : List Byte) (s : State)
    (hi : i.bytes ≠ none ∨ op ≠ .resetLayout ∧ op ≠ .stopScreen) :
    Moves i s (takeCommand op args s).after := by
  unfold Machine.takeCommand
  split
  · exact Moves.runCommand op args s hi
  · exact Moves.refl s

theorem Moves.byteIn (hi : i.bytes ≠ none) (s : State) (b : Byte) : Moves i s (s.byteIn b) := by
  unfold State.byteIn
  split
  · exact Moves.refl s
  · unfold State.receiveByte
    split
    · exact Moves.port s _
    · exact Moves.port s _
    · exact (Moves.takeCommand _ _ s (.inl hi)).trans (Moves.port _ _)
  · exact Moves.port s _
  · exact Moves.port s _

/-- A row with bytes shifts them in (R168). -/
theorem exec_bytes {bytes : List Byte} (h : i.bytes = some bytes) (s : State) : exec i s = .next (s.bytesIn bytes) := by
  cases i
  all_goals cases h <;> rfl

/-- WHAT A ROW CAN DO: every row is carried out, by moves (log 21). -/
theorem exec_moves (i : Instr) (s : State) : ∃ t, exec i s = .next t ∧ Moves i s t := by
  rcases hbytes : i.bytes with _ | bytes
  · cases i
    case transactionBegin =>
      refine ⟨_, rfl, ?_⟩
      split
      · exact Moves.port s _
      · exact Moves.refl s
    case transactionEnd => exact ⟨_, rfl, Moves.port s _⟩
    case pinReset => exact ⟨_, rfl, (Change.reset s rfl).moves⟩
    case resetPinRelease =>
      refine ⟨_, rfl, ?_⟩
      split
      · exact Moves.startup s _
      · exact Moves.refl s
    case initialisationRestart =>
      refine ⟨_, rfl, ?_⟩
      split
      · exact Moves.refl s
      · exact Moves.startup s _
      · exact Moves.refl s
    case initialisationEnd =>
      refine ⟨_, rfl, ?_⟩
      split
      · exact (Moves.startup s _).trans (Moves.raise _ .ready)
      · exact Moves.refl s
    case scanTick first lines =>
      refine ⟨_, rfl, ?_⟩
      split
      · exact Moves.refl s
      · exact Moves.scanTick s first lines
    case lossTimeout n =>
      refine ⟨_, rfl, ?_⟩
      split
      · exact Moves.lossTick s n
      · exact Moves.refl s
    case keyPress k =>
      refine ⟨_, rfl, ?_⟩
      split
      · exact Moves.pressKey s k
      · exact Moves.refl s
    case keyRelease k =>
      refine ⟨_, rfl, ?_⟩
      split
      · exact Moves.releaseKey s k
      · exact Moves.refl s
    case keyRepeat k =>
      refine ⟨_, rfl, ?_⟩
      split
      · exact Moves.repeatKey s k
      · exact Moves.refl s
    case dwellTick =>
      refine ⟨_, rfl, ?_⟩
      split
      · exact Moves.refl s
      · exact Moves.dwellTick s
    case carouselAdvance c =>
      refine ⟨_, rfl, ?_⟩
      split
      · rename_i hdue
        obtain ⟨-, htimes⟩ := Bool.and_eq_true_iff.mp hdue
        exact (Change.applyRequests s).moves.trans (Moves.countDown _ c (Bool.and_eq_true_iff.mp htimes).1)
      · exact Moves.refl s
    case stageExpiry k =>
      refine ⟨_, rfl, ?_⟩
      split
      · exact Moves.stageTick s k
      · exact Moves.refl s
    case holdEnd h =>
      refine ⟨_, rfl, ?_⟩
      split
      · exact (Change.endHold s h).moves.trans (Moves.raise _ .slated)
      · exact Moves.refl s
    case minute =>
      refine ⟨_, rfl, ?_⟩
      split
      · exact Moves.refl s
      · exact Moves.minute s
    case standbyEntry k =>
      refine ⟨_, rfl, ?_⟩
      split
      · exact Moves.minuteAt s k
      · exact Moves.refl s
    case frameStart k =>
      refine ⟨_, rfl, ?_⟩
      split
      · exact Moves.refl s
      · rename_i hmode
        exact (Change.frame s k rfl hmode).moves.trans
          (((Moves.raiseIf _ _ .slated).trans (Moves.raiseIf _ _ .probe)).trans (Moves.raiseIf _ _ .standby))
    case transitionEnd h =>
      refine ⟨_, rfl, ?_⟩
      split
      · exact (Change.endTransition s h rfl).moves
      · exact Moves.refl s
    case feedFrameStart start => exact ⟨_, rfl, Moves.feedFrameStart s start.input start.pixels⟩
    case feedFrameEnd n frame => exact ⟨_, rfl, Moves.feedFrameEnd s n frame⟩
    case pulseEnd =>
      refine ⟨_, rfl, ?_⟩
      split
      · exact Moves.pass s _
      · exact Moves.runPulse _ s
    all_goals cases hbytes
  · refine ⟨_, exec_bytes hbytes s, ?_⟩
    exact Moves.foldl State.byteIn (Moves.byteIn (by rw [hbytes]; exact Option.some_ne_none bytes)) bytes s

/-- A law of the records that every move keeps, and that does not speak of the queue, is kept by every step. -/
theorem step_keeps {P : State → Prop} (queue : ∀ (s : State) (q : List Instr), P s → P { s with pending := q })
    (keeps : ∀ (i : Instr) (s t : State), Change i s t → P s → P t) (hs : P s) (h : step s = .next t) : P t := by
  unfold step at h
  split at h
  · cases h
    exact (Moves.idle (i := .minute) s).keeps (keeps .minute) hs
  · rename_i c rest _
    obtain ⟨u, hu, hmoves⟩ := exec_moves c { s with pending := rest }
    rw [hu] at h
    cases h
    exact hmoves.keeps (keeps c) (queue s rest hs)

/-- No move touches the commands that wait. -/
theorem Change.pending (h : Change i s t) : t.pending = s.pending := by
  cases h
  case recallOn => exact State.recallScreen_pending ..
  all_goals rfl

/-- Settles O3: every row is carried out by moves, and no move touches the queue. -/
theorem everyCommandCompletesAndKeepsTheQueue : Obligations.EveryCommandCompletesAndKeepsTheQueue := by
  intro i s
  obtain ⟨t, hexec, hmoves⟩ := exec_moves i s
  exact ⟨t, hexec, hmoves.keeps (P := fun u => u.pending = s.pending) (fun u v h hu => h.pending.trans hu) rfl⟩

end

end Sys2Proof.Machine
end

section
/-! PROOFS. The machine's steps and start-up (log 1, log 2, R174, R175), and the records of pin reset with the laws that they meet. -/

namespace Sys2Proof.Machine

/-- Settles O1. -/
theorem stepTakesTheFrontOfTheQueue : Obligations.StepTakesTheFrontOfTheQueue := by
  intro s c rest h
  unfold step
  rw [h]

/-- Settles O2: by whether the reset pin is held, and by whether the cycle ends the interval. -/
theorem emptyQueueIsOneReferenceCycle : Obligations.EmptyQueueIsOneReferenceCycle := by
  intro s h
  have hstep : step s = .next s.idle := by
    unfold step
    rw [h]
  have hidle : s.startup ≠ .held → s.idle = s.cycle := fun hs => if_neg hs
  refine ⟨fun hs => ?_, fun hs hinside => ?_, fun hs hend => ?_⟩
  · rw [hstep, State.idle, if_pos hs]
  · rw [hstep, hidle hs, State.cycle, if_pos hinside]
    rfl
  · rw [hstep, hidle hs, State.cycle, if_neg (Nat.not_lt.mpr hend)]
    exact congrArg Host.Outcome.next (if_neg hs).symm

/-- Settles O20: each row by its own test of the start-up state. -/
theorem startupRunsFromResetToReady : Obligations.StartupRunsFromResetToReady := by
  intro s
  refine ⟨rfl, fun h => ?_, fun h => ?_, ?_, fun h => ?_, fun h => ?_⟩
  · exact congrArg Host.Outcome.next (if_pos h)
  · exact congrArg Host.Outcome.next (if_neg h)
  · refine congrArg Host.Outcome.next ?_
    cases h : s.startup with
    | held => rfl
    | initialising =>
      dsimp only
      rw [← h]
    | ready => rfl
  · exact congrArg Host.Outcome.next (if_pos h)
  · exact congrArg Host.Outcome.next (if_neg h)

/-! ### The records of pin reset -/

theorem State.reset_window (h : Handle) : State.reset.windows[h] = .free := Vector.getElem_replicate h.isLt
theorem State.reset_stage (k : ScreenId) : State.reset.stages[k] = .empty := Vector.getElem_replicate k.isLt
theorem State.reset_screen (k : ScreenId) : State.reset.screens[k] = Screen.reset := Vector.getElem_replicate k.isLt
theorem State.reset_input (i : InputId) : State.reset.inputs[i] = Input.reset := Vector.getElem_replicate i.isLt
theorem State.reset_carousel (c : CarouselId) : State.reset.carousels[c] = Carousel.reset := Vector.getElem_replicate c.isLt
theorem State.reset_key (k : KeyId) : State.reset.keys[k] = Key.reset := Vector.getElem_replicate k.isLt
theorem Screen.reset_pin (i : InputId) : Screen.reset.pins[i] = none := Vector.getElem_replicate i.isLt
theorem Input.reset_slot (j : SlotId) : Input.reset.slots[j] = ⟨[], ⟨0, 0⟩⟩ := Vector.getElem_replicate j.isLt

theorem State.reset_pinned (i : InputId) (j : SlotId) : State.reset.pinned i j = false := by
  rw [← Bool.not_eq_true, State.pinned_iff]
  rintro ⟨k, hk⟩
  simp only [State.pins, State.reset_screen, Screen.reset_pin, reduceCtorEq, decide_false, Bool.false_eq_true] at hk

theorem State.reset_hasShown (k : ScreenId) : State.reset.hasShown k = false := by
  rw [← Bool.not_eq_true, State.hasShown_iff]
  rintro ⟨h, hshown, -⟩
  rw [State.reset_window] at hshown
  cases hshown

/-- Settles O4: the records are those of State.reset, table by table. -/
theorem resetLeavesTheRecordsOfTheManual : Obligations.ResetLeavesTheRecordsOfTheManual := by
  refine ⟨rfl, by decide, State.reset_window, State.reset_stage, rfl, fun k => ?_, fun i => ?_, rfl, ⟨rfl, rfl, rfl, rfl⟩,
    fun c => ?_, fun n => ?_, fun k => ?_, rfl, rfl, rfl, rfl, rfl, rfl⟩
  · rw [State.reset_screen]
    exact ⟨rfl, rfl, rfl, rfl, rfl, rfl, rfl, rfl, Screen.reset_pin, rfl, rfl⟩
  · refine ⟨?_, ?_, ?_, ?_, ?_, ?_, fun j => ⟨?_, State.reset_pinned i j⟩⟩ <;> rw [State.reset_input] <;> rfl
  · rw [State.reset_carousel]
    exact ⟨rfl, rfl, rfl, rfl, rfl, rfl, rfl, rfl⟩
  · rw [State.reset_scene]
    exact ⟨rfl, rfl⟩
  · rw [State.reset_key]
    exact ⟨rfl, rfl, rfl, rfl, rfl, rfl, rfl, rfl⟩

/-! ### The laws right after pin reset -/

theorem State.reset_stageLaw : State.reset.StageLaw := by
  refine ⟨fun h => ?_, fun k => ?_, fun h k hbelongs => ?_⟩
  · rw [State.reset_window]
    rfl
  · rw [State.reset_stage]
    rfl
  · rw [State.reset_window, Window.belongsTo_free] at hbelongs
    cases hbelongs

theorem State.reset_transitionLaw : State.reset.TransitionLaw := by
  intro h
  rw [State.reset_window]
  rfl

theorem State.reset_slotLaw : State.reset.SlotLaw := by
  intro i
  unfold State.slotLawAt
  rw [State.reset_input]
  refine ⟨fun j => ?_, nofun, nofun, fun j h => ?_, nofun, fun _ h => absurd rfl h, fun _ => rfl⟩
  · rw [Input.reset_slot]
    rfl
  · rw [State.reset_pinned] at h
    cases h

theorem State.reset_planLaw : State.reset.PlanLaw := by
  intro k
  rw [State.reset_screen]
  rfl

theorem State.reset_screenLaw : State.reset.ScreenLaw := by
  intro k
  refine ⟨fun _ => ⟨?_, fun i => ?_, ?_, fun h _ => ?_⟩, fun h => ?_⟩
  · rw [State.reset_screen]
    rfl
  · rw [State.reset_screen, Screen.reset_pin]
  · rw [State.reset_screen]
    rfl
  · rw [State.reset_window]
    rfl
  · rw [State.reset_hasShown] at h
    cases h

theorem State.reset_carouselLaw : State.reset.CarouselLaw := by
  intro c
  refine ⟨?_, ?_⟩
  · rw [State.reset_carousel]
    rfl
  · unfold endsAtTimer
    rw [State.reset_carousel]
    rfl

theorem State.reset_sceneLaw : State.reset.SceneLaw := by
  intro n
  rw [State.reset_scene]
  exact ⟨Nat.zero_le _, fun f hf => by cases hf⟩

theorem State.reset_countLaw : State.reset.CountLaw := by
  refine ⟨fun h => ?_, fun k => ?_, by decide, fun k => ?_, by decide, fun i => ?_, by decide, fun k => ?_, by decide⟩
  · rw [State.reset_window]
    rfl
  · rw [State.reset_stage]
    rfl
  · rw [State.reset_screen]
    exact Nat.zero_le _
  · rw [State.reset_input]
    exact ⟨Nat.zero_le _, fun _ => Nat.zero_le _⟩
  · rw [State.reset_key]
    exact ⟨Nat.zero_le _, Nat.zero_lt_succ _, fun h => h⟩

/-- Settles O5: law by law. -/
theorem recordLawsHoldAfterPinReset : Obligations.RecordLawsHoldAfterPinReset :=
  ⟨State.reset_stageLaw, State.reset_transitionLaw, State.reset_slotLaw, State.reset_planLaw, State.reset_screenLaw,
    State.reset_carouselLaw, State.reset_sceneLaw, State.reset_countLaw⟩

end Sys2Proof.Machine
end

section
/-! PROOFS. The law of the stages is kept by every step (R4, R26, R27): a window is sound against the stages when its pending copy is on
its own screen and its pending work stands on a stage that is not EMPTY; each move keeps every window sound. -/

namespace Sys2Proof.Machine

/-! ### What a recall and a discard make of a window -/

/-- Placing entries leaves a window, or makes a FREE one STAGED with one of them (R157). -/
theorem State.foldl_placeEntry_window (l : List WindowFields) (s : State) (h : Handle) :
    (l.foldl State.placeEntry s).windows[h] = s.windows[h] ∨
      s.windows[h] = .free ∧ ∃ f ∈ l, (l.foldl State.placeEntry s).windows[h] = .staged f := by
  induction l generalizing s with
  | nil => exact .inl rfl
  | cons f l ih =>
    have hplace : (s.placeEntry f).windows[h] = s.windows[h] ∨
        s.windows[h] = .free ∧ (s.placeEntry f).windows[h] = .staged f := by
      unfold State.placeEntry
      split
      · exact .inl rfl
      · rename_i g hg
        by_cases hgh : g = h
        · subst hgh
          exact .inr ⟨Window.isFree_iff.mp (State.lowestFree_eq_some.mp hg).1, vector_get_set_self ..⟩
        · exact .inl (vector_get_set_ne _ _ hgh)
    rw [List.foldl_cons]
    rcases ih (s.placeEntry f) with hrest | ⟨hfree, g, hg, hstaged⟩
    · rcases hplace with heq | ⟨hfree, heq⟩
      · exact .inl (hrest.trans heq)
      · exact .inr ⟨hfree, f, List.mem_cons_self .., hrest.trans heq⟩
    · rcases hplace with heq | ⟨hfree', -⟩
      · exact .inr ⟨heq ▸ hfree, g, List.mem_cons_of_mem _ hg, hstaged⟩
      · exact .inr ⟨hfree', g, List.mem_cons_of_mem _ hg, hstaged⟩

/-- A recall on screen k marks a window of the screen, makes a FREE one STAGED on it, or leaves it (R157). -/
theorem State.recallScreen_window (s : State) (caller : Party) (es : List WindowFields) (k : ScreenId) (h : Handle) :
    (s.recallScreen caller es k).windows[h] = s.windows[h] ∨
      (s.windows[h].belongsTo k = true ∧ s.windows[h].marks caller = true ∧
        (s.recallScreen caller es k).windows[h] = s.windows[h].retire) ∨
      (s.windows[h] = .free ∧ ∃ f, f.screen = k ∧ (s.recallScreen caller es k).windows[h] = .staged f) := by
  have hmap : (mapTable (fun _ w => if w.belongsTo k && w.marks caller then w.retire else w) s.windows)[h] =
      if s.windows[h].belongsTo k && s.windows[h].marks caller then s.windows[h].retire else s.windows[h] := mapTable_get ..
  have hplace := State.foldl_placeEntry_window (es.filter fun f => f.screen = k)
    { s with windows := mapTable (fun _ w => if w.belongsTo k && w.marks caller then w.retire else w) s.windows } h
  unfold State.recallScreen
  dsimp only [State.setStage_windows] at hplace ⊢
  rw [hmap] at hplace
  split at hplace
  · rename_i hmarked
    obtain ⟨hbelongs, hmarks⟩ := Bool.and_eq_true_iff.mp hmarked
    rcases hplace with heq | ⟨hfree, -⟩
    · exact .inr (.inl ⟨hbelongs, hmarks, heq⟩)
    · have hretire : ∀ w : Window, w.marks caller = true → w.retire ≠ .free := by
        intro w hmark
        cases w with
        | live => nofun
        | free | staged | retiring => simp [Window.marks] at hmark
      exact absurd hfree (hretire _ hmarks)
  · rcases hplace with heq | ⟨hfree, f, hf, heq⟩
    · exact .inl heq
    · exact .inr (.inr ⟨hfree, f, by simpa using (List.mem_filter.mp hf).2, heq⟩)

@[simp] theorem State.recallScreen_stages (s : State) (caller : Party) (es : List WindowFields) (k : ScreenId) :
    (s.recallScreen caller es k).stages = s.stages.set k (.sealed caller 0) := by
  unfold State.recallScreen
  exact congrArg (Vector.set · k.val _) (foldl_keeps State.stages State.placeEntry State.placeEntry_stages _ _)

/-! ### The windows of the moves, one by one -/

theorem Window.belongsTo_unique {w : Window} {k g : ScreenId} (hk : w.belongsTo k = true) (hg : w.belongsTo g = true) : k = g := by
  rw [Window.belongsTo_iff] at hk hg
  exact Option.some.inj (hk.symm.trans hg)

theorem State.holdTicks_window (s : State) (h : Handle) :
    s.holdTicks.windows[h] = s.windows[h] ∨ s.holdTicks.windows[h] = s.windows[h].holdTick := by
  have hmap : s.holdTicks.windows[h] =
      match s.windows[h].screen with
      | none => s.windows[h]
      | some k => if s.countsHolds k then s.windows[h].holdTick else s.windows[h] := mapTable_get ..
  rw [hmap]
  split
  · exact .inl rfl
  · split
    · exact .inr rfl
    · exact .inl rfl

theorem State.frameWindows_get (s : State) (k : ScreenId) (h : Handle) :
    (s.frameWindows k)[h] = if s.windows[h].belongsTo k then s.frameWindow k s.windows[h] else s.windows[h] := mapTable_get ..

@[simp] theorem State.framed_windows (s : State) (k : ScreenId) : (s.framed k).windows = s.frameWindows k := rfl
@[simp] theorem State.framed_stages (s : State) (k : ScreenId) :
    (s.framed k).stages = s.stages.set k s.stages[k].afterFrame := rfl

theorem State.halted_window (s : State) (k : ScreenId) (h : Handle) :
    (s.halted k).windows[h] = if s.windows[h].belongsTo k then s.windows[h].endTransition else s.windows[h] := mapTable_get ..

/-! ### Sound windows -/

/-- The window's pending copy is on its own screen (R4), and its pending work on a stage that is OPEN or SEALED (R27). -/
def Window.sound (w : Window) (stages : Vector Stage 8) : Prop :=
  w.keepsScreen = true ∧ ∀ k : ScreenId, w.belongsTo k = true → w.hasPendingWork = true → stages[k] ≠ .empty

theorem State.stageLaw_iff {s : State} :
    s.StageLaw ↔ (∀ k : ScreenId, s.stages[k].panelClosed = true) ∧ ∀ h : Handle, s.windows[h].sound s.stages := by
  constructor
  · rintro ⟨hkeeps, hclosed, hwork⟩
    exact ⟨hclosed, fun h => ⟨hkeeps h, hwork h⟩⟩
  · rintro ⟨hclosed, hsound⟩
    exact ⟨fun h => (hsound h).1, hclosed, fun h => (hsound h).2⟩

section
variable {w : Window} {stages : Vector Stage 8}

theorem Window.sound_of_idle (hkeeps : w.keepsScreen = true) (hwork : w.hasPendingWork = false) : w.sound stages :=
  ⟨hkeeps, fun _ _ h => by rw [hwork] at h; cases h⟩

theorem Window.sound_free : Window.sound .free stages := Window.sound_of_idle rfl rfl

/-- The work of a sound window goes on being sound where its screen has a stage that is not EMPTY. -/
theorem Window.sound_of_stage {k : ScreenId} (hkeeps : w.keepsScreen = true) (hk : ∀ g : ScreenId, w.belongsTo g = true → g = k)
    (hstage : stages[k] ≠ .empty) : w.sound stages :=
  ⟨hkeeps, fun g hg _ => hk g hg ▸ hstage⟩

/-- A stage that becomes OPEN or SEALED, or whose screen is not the window's, leaves the window sound. -/
theorem Window.sound_set {k : ScreenId} {g : Stage} (hsound : w.sound stages) (h : g ≠ .empty ∨ w.belongsTo k = false) :
    w.sound (stages.set k g) := by
  refine ⟨hsound.1, fun f hf hwork => ?_⟩
  by_cases hkf : k = f
  · subst hkf
    rw [vector_get_set_self]
    rcases h with h | h
    · exact h
    · rw [h] at hf
      cases hf
  · rw [vector_get_set_ne _ _ hkf]
    exact hsound.2 f hf hwork

/-- A change that keeps the screen, the pending work and its screen keeps a window sound. -/
theorem Window.sound_congr {v : Window} (hsound : w.sound stages) (hscreen : v.screen = w.screen)
    (hwork : v.hasPendingWork = w.hasPendingWork) (hkeeps : v.keepsScreen = w.keepsScreen) : v.sound stages := by
  refine ⟨hkeeps.trans hsound.1, fun k hk hv => hsound.2 k ?_ (hwork ▸ hv)⟩
  rw [Window.belongsTo_iff] at hk ⊢
  exact hscreen ▸ hk

theorem Window.holdTick_sound (h : w.sound stages) : w.holdTick.sound stages := by
  cases w with
  | free => exact h
  | staged p => exact h
  | live c p v x => cases p <;> exact Window.sound_congr h rfl rfl rfl
  | retiring c v o => exact Window.sound_congr h rfl rfl rfl

theorem Window.toSlated_sound (h : w.sound stages) : w.toSlated.sound stages := by
  cases w with
  | free => exact h
  | staged p => exact h
  | live c p v x => cases p <;> exact Window.sound_congr h rfl rfl rfl
  | retiring c v o => exact Window.sound_congr h rfl rfl rfl

theorem Window.endTransition_sound (h : w.sound stages) : w.endTransition.sound stages := by
  cases w with
  | free => exact h
  | staged p => exact h
  | live c p v x => cases p <;> exact Window.sound_congr h rfl rfl rfl
  | retiring c v o => exact Window.sound_free

theorem Window.finishTransition_eq (w : Window) : w.finishTransition = w.endTransition := by cases w <;> rfl

theorem Window.discard_sound (w : Window) : w.discard.sound stages := by
  cases w <;> exact Window.sound_of_idle rfl rfl

theorem Window.retire_sound {k : ScreenId} (hbelongs : w.belongsTo k = true) (hstage : stages[k] ≠ .empty) :
    w.retire.sound stages := by
  cases w with
  | free => exact Window.sound_free
  | staged p => exact Window.sound_free
  | live c p v x => exact Window.sound_of_stage rfl (fun g hg => Window.belongsTo_unique (w := .live c p v x) hg hbelongs) hstage
  | retiring c v o => exact Window.sound_of_idle rfl rfl

theorem Window.staged_sound {f : WindowFields} {k : ScreenId} (hscreen : f.screen = k) (hstage : stages[k] ≠ .empty) :
    (Window.staged f).sound stages :=
  Window.sound_of_stage rfl (fun _ hg => (Option.some.inj (Window.belongsTo_iff.mp hg)).symm.trans hscreen) hstage

/-- The copy an edit starts from is on the screen of the window (R4, R19). -/
theorem Window.amendBase_screen {base : WindowFields} (hkeeps : w.keepsScreen = true) (hbase : w.amendBase = .ok base) :
    w.screen = some base.screen := by
  cases w with
  | free => cases hbase
  | staged p =>
    cases hbase
    rfl
  | live c p v x =>
    cases p with
    | none =>
      cases hbase
      rfl
    | amended p =>
      cases hbase
      have hscreen : base.screen = c.screen := by simpa [Window.keepsScreen] using hkeeps
      rw [hscreen]
      rfl
    | retire => cases hbase
  | retiring c v o => cases hbase

theorem Window.amend_sound {base f : WindowFields} (hkeeps : w.keepsScreen = true) (hbase : w.amendBase = .ok base)
    (hscreen : f.screen = base.screen) (hstage : stages[base.screen] ≠ .empty) : (w.amend f).sound stages := by
  have hw := Window.amendBase_screen hkeeps hbase
  cases w with
  | free => exact Window.sound_free
  | staged p => exact Window.staged_sound hscreen hstage
  | live c p v x =>
    have hc : c.screen = base.screen := Option.some.inj hw
    refine Window.sound_of_stage (k := base.screen) ?_ (fun g hg => ?_) hstage
    · simp [Window.amend, Window.keepsScreen, hscreen, hc]
    · rw [Window.belongsTo_iff] at hg
      exact (Option.some.inj hg).symm.trans hc
  | retiring c v o => cases hbase

/-- A frame start with the stage SEALED leaves no pending work (R39 to R43). -/
theorem State.windowFrame_committed (s : State) (first : Bool) (w : Window) :
    (s.windowFrame first true w).keepsScreen = true ∧ (s.windowFrame first true w).hasPendingWork = false := by
  cases w with
  | free => exact ⟨rfl, rfl⟩
  | staged p => exact ⟨rfl, rfl⟩
  | live c p v x =>
    cases p with
    | none => exact ⟨rfl, rfl⟩
    | amended p => exact ⟨rfl, rfl⟩
    | retire =>
      simp only [State.windowFrame, State.retireFrame, if_true]
      split <;> exact ⟨rfl, rfl⟩
  | retiring c v o =>
    simp only [State.windowFrame]
    split <;> exact ⟨rfl, rfl⟩

/-- A frame start with the stage not SEALED keeps the pending work of a window where it is. -/
theorem State.windowFrame_uncommitted_sound (s : State) (first : Bool) (h : w.sound stages) :
    (s.windowFrame first false w).sound stages := by
  cases w with
  | free => exact h
  | staged p => exact h
  | live c p v x => cases p <;> exact Window.sound_congr h rfl rfl rfl
  | retiring c v o =>
    simp only [State.windowFrame]
    split
    · exact Window.sound_free
    · exact Window.sound_of_idle rfl rfl

end

theorem Stage.commits_iff {g : Stage} : g.commits = true ↔ g.isSealed := by
  cases g <;> simp [Stage.commits, Stage.isSealed]

theorem Stage.afterFrame_of_commits {g : Stage} (h : g.commits = true) : g.afterFrame = .empty := by
  cases g with
  | opened => cases h
  | empty | sealed => rfl

theorem Stage.afterFrame_of_not_commits {g : Stage} (h : g.commits = false) : g.afterFrame = g := by
  cases g with
  | sealed => cases h
  | empty | opened => rfl

/-! ### The law -/

section
variable {s t : State}

theorem panelClosed_set {stages : Vector Stage 8} (h : ∀ k : ScreenId, stages[k].panelClosed = true) (k : ScreenId) {g : Stage}
    (hg : g.panelClosed = true) (f : ScreenId) : (stages.set k g)[f].panelClosed = true := by
  rw [vector_get_set]
  split
  · exact hg
  · exact h f

/-- An edit of window h that opens the stage of screen k (R15, R28). -/
theorem State.StageLaw.edit (hs : s.StageLaw) {h : Handle} {k : ScreenId} {w : Window}
    (hw : w.sound (s.stages.set k (.opened .link 0))) : ((s.setWindow h w).edited .link k).StageLaw := by
  obtain ⟨hclosed, hsound⟩ := State.stageLaw_iff.mp hs
  refine State.stageLaw_iff.mpr ⟨panelClosed_set hclosed k rfl, fun g => ?_⟩
  show (s.windows.set h w)[g].sound _
  rw [vector_get_set]
  split
  · exact hw
  · exact Window.sound_set (hsound g) (.inl nofun)

/-- A stage that becomes OPEN(LINK) or SEALED without an edit. -/
theorem State.StageLaw.setStage (hs : s.StageLaw) (k : ScreenId) {g : Stage} (hclosed : g.panelClosed = true) (hg : g ≠ .empty) :
    (s.setStage k g).StageLaw := by
  obtain ⟨hpanel, hsound⟩ := State.stageLaw_iff.mp hs
  exact State.stageLaw_iff.mpr ⟨panelClosed_set hpanel k hclosed, fun h => Window.sound_set (hsound h) (.inl hg)⟩

/-- One window that stays sound. -/
theorem State.StageLaw.setWindow (hs : s.StageLaw) (h : Handle) {w : Window} (hw : w.sound s.stages) : (s.setWindow h w).StageLaw := by
  obtain ⟨hclosed, hsound⟩ := State.stageLaw_iff.mp hs
  refine State.stageLaw_iff.mpr ⟨hclosed, fun g => ?_⟩
  show (s.windows.set h w)[g].sound _
  rw [vector_get_set]
  split
  · exact hw
  · exact hsound g

theorem State.StageLaw.discardStage (hs : s.StageLaw) (k : ScreenId) : (s.discardStage k).StageLaw := by
  obtain ⟨hclosed, hsound⟩ := State.stageLaw_iff.mp hs
  refine State.stageLaw_iff.mpr ⟨panelClosed_set hclosed k rfl, fun h => ?_⟩
  rw [State.discardStage_windows]
  split
  · exact Window.discard_sound _
  · rename_i hother
    exact Window.sound_set (hsound h) (.inr (by simpa using hother))

theorem State.StageLaw.recallScreen (hs : s.StageLaw) (caller : Party) (es : List WindowFields) (k : ScreenId) :
    (s.recallScreen caller es k).StageLaw := by
  obtain ⟨hclosed, hsound⟩ := State.stageLaw_iff.mp hs
  have hstage : (s.stages.set k (.sealed caller 0))[k] ≠ .empty := by
    rw [vector_get_set_self]
    nofun
  refine State.stageLaw_iff.mpr ⟨fun f => ?_, fun h => ?_⟩
  · rw [State.recallScreen_stages]
    exact panelClosed_set hclosed k rfl f
  · rw [State.recallScreen_stages]
    rcases State.recallScreen_window s caller es k h with heq | ⟨hbelongs, -, heq⟩ | ⟨-, f, rfl, heq⟩
    · rw [heq]
      exact Window.sound_set (hsound h) (.inl nofun)
    · rw [heq]
      exact Window.retire_sound hbelongs hstage
    · rw [heq]
      exact Window.staged_sound rfl hstage

theorem State.StageLaw.framed (hs : s.StageLaw) (k : ScreenId) : (s.framed k).StageLaw := by
  obtain ⟨hclosed, hsound⟩ := State.stageLaw_iff.mp hs
  refine State.stageLaw_iff.mpr ⟨?_, fun h => ?_⟩
  · refine panelClosed_set hclosed k ?_
    have hk := hclosed k
    cases hg : s.stages[k] with
    | empty => rfl
    | opened owner n => rw [hg] at hk; exact hk
    | sealed owner n => rfl
  · rw [State.framed_windows, State.framed_stages, State.frameWindows_get]
    split
    · unfold State.frameWindow
      cases hcommits : s.stages[k].commits with
      | true =>
        obtain ⟨hkeeps, hwork⟩ := s.windowFrame_committed s.screens[k].plan.isNone s.windows[h]
        exact Window.sound_of_idle hkeeps hwork
      | false =>
        have hset : s.stages.set k s.stages[k] = s.stages := Vector.set_getElem_self k.isLt
        rw [Stage.afterFrame_of_not_commits hcommits, hset]
        exact s.windowFrame_uncommitted_sound _ (hsound h)
    · rename_i hother
      exact Window.sound_set (hsound h) (.inr (by simpa using hother))

/-- A law of single windows that reads no stage is kept by what changes every window of a screen. -/
theorem State.StageLaw.windows (hs : s.StageLaw) {ws : Vector Window 64} (h : ∀ h : Handle, ws[h].sound s.stages) :
    ({ s with windows := ws } : State).StageLaw :=
  State.stageLaw_iff.mpr ⟨(State.stageLaw_iff.mp hs).1, h⟩

theorem Change.keeps_stageLaw {i : Instr} (h : Change i s t) (hs : s.StageLaw) : t.StageLaw := by
  obtain ⟨hclosed, hsound⟩ := State.stageLaw_iff.mp hs
  have hedited : ∀ k : ScreenId, (s.stages.set k (.opened .link 0))[k] ≠ .empty := fun k => by
    rw [vector_get_set_self]
    nofun
  cases h
  case reset => exact State.reset_stageLaw
  case clearLayout =>
    refine State.stageLaw_iff.mpr ⟨fun k => ?_, fun h => ?_⟩
    · have hempty : (resetLayout s).after.stages[k] = .empty := mapTable_get ..
      rw [hempty]
      rfl
    · have hfree : (resetLayout s).after.windows[h] = .free := mapTable_get ..
      rw [hfree]
      exact Window.sound_free
  case place h f _ _ => exact hs.edit (Window.staged_sound rfl (hedited f.screen))
  case amend h base f hbase hscreen _ =>
    exact hs.edit (Window.amend_sound (hsound h).1 hbase hscreen (hedited base.screen))
  case retire h base hbase _ =>
    have hbelongs := Window.belongsTo_iff.mpr (Window.amendBase_screen (hsound h).1 hbase)
    exact hs.edit (Window.retire_sound hbelongs (hedited base.screen))
  case sealOpen k n _ => exact hs.setStage k rfl nofun
  case age k n _ => exact hs.setStage k rfl nofun
  case discard k => exact hs.discardStage k
  case recallOn caller es k => exact hs.recallScreen caller es k
  case holdTicks =>
    refine hs.windows fun h => ?_
    rcases s.holdTicks_window h with heq | heq
    · exact (congrArg (Window.sound · s.stages) heq).mpr (hsound h)
    · exact (congrArg (Window.sound · s.stages) heq).mpr (Window.holdTick_sound (hsound h))
  case endTransition h _ =>
    rw [Window.finishTransition_eq]
    exact hs.setWindow h (Window.endTransition_sound (hsound h))
  case endHold h => exact hs.setWindow h (Window.toSlated_sound (hsound h))
  case stop k _ =>
    refine hs.windows fun h => ?_
    show (s.halted k).windows[h].sound s.stages
    rw [State.halted_window]
    split
    · exact Window.endTransition_sound (hsound h)
    · exact hsound h
  case frame k _ _ => exact hs.framed k
  all_goals exact hs

end

/-- Settles O6: pin reset meets the law, and every move keeps it. -/
theorem everyStepKeepsTheStageLaw : Obligations.EveryStepKeepsTheStageLaw := fun _ _ hs h =>
  step_keeps (P := State.StageLaw) (fun _ _ hlaw => hlaw) (fun _ _ _ hchange hlaw => hchange.keeps_stageLaw hlaw) hs h

end Sys2Proof.Machine
end

section
/-! PROOFS. The ranges of the records are kept by every step: the transitions (R64, R76), the scenes (R151) and the counts (R25, R79, R97,
R115, R132, R160, R181). A property of single windows goes through the operations on a window, each once. -/

namespace Sys2Proof.Machine

/-! ### A property of every window -/

/-- What the operations on single windows keep, every move keeps of every window. -/
structure WindowKept (Q : Window → Prop) : Prop where
  free : Q .free
  staged : ∀ p, Q (.staged p)
  amend : ∀ w f, Q w → Q (w.amend f)
  retire : ∀ w, Q w → Q w.retire
  discard : ∀ w, Q w → Q w.discard
  holdTick : ∀ w, Q w → Q w.holdTick
  endTransition : ∀ w, Q w → Q w.endTransition
  toSlated : ∀ w, Q w → Q w.toSlated
  frame : ∀ (s : State) (first committing : Bool) w, Q w → Q (s.windowFrame first committing w)

section
variable {Q : Window → Prop} {i : Instr} {s t : State}

theorem forall_window_set (hs : ∀ h : Handle, Q s.windows[h]) (h : Handle) {w : Window} (hw : Q w) (g : Handle) :
    Q (s.windows.set h w)[g] := by
  rw [vector_get_set]
  split
  · exact hw
  · exact hs g

theorem Change.keeps_windows (hq : WindowKept Q) (h : Change i s t) (hs : ∀ h : Handle, Q s.windows[h]) (g : Handle) :
    Q t.windows[g] := by
  cases h
  case reset =>
    show Q State.reset.windows[g]
    rw [State.reset_window]
    exact hq.free
  case clearLayout =>
    have hfree : (Machine.resetLayout s).after.windows[g] = .free := mapTable_get ..
    rw [hfree]
    exact hq.free
  case place h f _ _ => exact forall_window_set hs h (hq.staged f) g
  case amend h base f _ _ _ => exact forall_window_set hs h (hq.amend _ f (hs h)) g
  case retire h base _ _ => exact forall_window_set hs h (hq.retire _ (hs h)) g
  case discard k =>
    rw [State.discardStage_windows]
    split
    · exact hq.discard _ (hs g)
    · exact hs g
  case recallOn caller es k =>
    rcases State.recallScreen_window s caller es k g with heq | ⟨-, -, heq⟩ | ⟨-, f, -, heq⟩
    · rw [heq]
      exact hs g
    · rw [heq]
      exact hq.retire _ (hs g)
    · rw [heq]
      exact hq.staged f
  case holdTicks =>
    rcases s.holdTicks_window g with heq | heq
    · rw [heq]
      exact hs g
    · rw [heq]
      exact hq.holdTick _ (hs g)
  case endTransition h _ =>
    refine forall_window_set hs h ?_ g
    rw [Window.finishTransition_eq]
    exact hq.endTransition _ (hs h)
  case endHold h => exact forall_window_set hs h (hq.toSlated _ (hs h)) g
  case stop k _ =>
    show Q (s.halted k).windows[g]
    rw [State.halted_window]
    split
    · exact hq.endTransition _ (hs g)
    · exact hs g
  case frame k _ _ =>
    rw [State.framed_windows, State.frameWindows_get]
    split
    · exact hq.frame s _ _ _ (hs g)
    · exact hs g
  all_goals exact hs g

end

/-! ### Transitions -/

/-- A step 1 to N of a length N of 1 to 63 has a weight of 1 to 64 (R65). -/
theorem weight_range {k n : Nat} (hk : 1 ≤ k) (hkn : k ≤ n) (hn : n ≤ 63) : 1 ≤ weight k n ∧ weight k n ≤ 64 := by
  unfold weight
  have hpos : 0 < n := by omega
  exact ⟨(Nat.one_le_div_iff hpos).mpr (by omega), Nat.div_le_of_le_mul (by rw [Nat.mul_comm]; exact Nat.mul_le_mul_right 64 hkn)⟩

/-- A running transition of a LIVE window in its ranges (R64, R76). -/
def LiveTransition.lawful : LiveTransition → Prop
  | .fadeIn k n | .crossfade k n _ => 1 ≤ k ∧ k ≤ n ∧ n ≤ 63

theorem Window.lawfulTransition_live {c : WindowFields} {p : Work} {v : View} {x : Option LiveTransition} :
    (Window.live c p v x).lawfulTransition = true ↔ ∀ y ∈ x, y.lawful := by
  rcases x with _ | (_ | _) <;> simp [Window.lawfulTransition, LiveTransition.lawful]

theorem Window.lawfulTransition_retiring {c : WindowFields} {v : View} {o : FadeOut} :
    (Window.retiring c v o).lawfulTransition = true ↔ 1 ≤ o.k ∧ o.k ≤ o.n ∧ o.n ≤ 63 ∧ 1 ≤ o.t0 ∧ o.t0 ≤ 64 := by
  simp [Window.lawfulTransition]

theorem LiveTransition.next_lawful {x y : LiveTransition} (hx : x.lawful) (hy : x.next = some y) : y.lawful := by
  cases x with
  | fadeIn k n =>
    obtain ⟨-, -, hn⟩ := hx
    simp only [LiveTransition.next, Option.ite_none_right_eq_some, Option.some.injEq] at hy
    obtain ⟨hlt, rfl⟩ := hy
    exact ⟨Nat.le_add_left 1 k, hlt, hn⟩
  | crossfade k n i =>
    obtain ⟨-, -, hn⟩ := hx
    simp only [LiveTransition.next, Option.ite_none_right_eq_some, Option.some.injEq] at hy
    obtain ⟨hlt, rfl⟩ := hy
    exact ⟨Nat.le_add_left 1 k, hlt, hn⟩

theorem startFadeIn_lawful {n : Fin 64} : ∀ y ∈ startFadeIn n, y.lawful := by
  intro y hy
  simp only [startFadeIn, Option.mem_def, Option.ite_none_left_eq_some, Option.some.injEq] at hy
  obtain ⟨hn, rfl⟩ := hy
  exact ⟨Nat.le_refl 1, Nat.pos_of_ne_zero hn, Nat.le_of_lt_succ n.isLt⟩

theorem sourceChange_lawful {n : Fin 64} {old : Option InputId} {x : Option LiveTransition} (hx : ∀ y ∈ x, y.lawful) :
    ∀ y ∈ sourceChange n old x, y.lawful := by
  intro y hy
  have hfresh : (if n.val = 0 then none else some (LiveTransition.crossfade 1 n old)) = some y → y.lawful := by
    simp only [Option.ite_none_left_eq_some, Option.some.injEq]
    rintro ⟨hn, rfl⟩
    exact ⟨Nat.le_refl 1, Nat.pos_of_ne_zero hn, Nat.le_of_lt_succ n.isLt⟩
  rcases x with _ | (_ | _)
  · exact hfresh hy
  · cases hy
    exact hx _ rfl
  · exact hfresh hy

theorem startingWeight_range {x : Option LiveTransition} (hx : ∀ y ∈ x, y.lawful) :
    1 ≤ startingWeight x ∧ startingWeight x ≤ 64 := by
  rcases x with _ | (⟨k, n⟩ | _)
  · exact ⟨by decide, Nat.le_refl 64⟩
  · obtain ⟨hk, hkn, hn⟩ := hx _ rfl
    show (1 ≤ if k < n then weight k n else 64) ∧ (if k < n then weight k n else 64) ≤ 64
    split
    · exact weight_range hk hkn hn
    · exact ⟨by decide, Nat.le_refl 64⟩
  · exact ⟨show 1 ≤ 64 by decide, Nat.le_refl 64⟩

theorem State.liveFrame_lawfulTransition (s : State) (first : Bool) (f : WindowFields) (p : Work) (v : View)
    {x : Option LiveTransition} (hx : ∀ y ∈ x, y.lawful) : (s.liveFrame first f p v x).lawfulTransition = true := by
  have hnext : ∀ y ∈ x.bind LiveTransition.next, y.lawful := by
    intro y hy
    obtain ⟨z, hz, hzy⟩ := Option.bind_eq_some_iff.mp hy
    exact LiveTransition.next_lawful (hx z hz) hzy
  unfold State.liveFrame
  refine Window.lawfulTransition_live.mpr ?_
  split
  · exact sourceChange_lawful hnext
  · exact hnext

theorem State.windowFrame_lawfulTransition (s : State) (first committing : Bool) {w : Window} (hw : w.lawfulTransition = true) :
    (s.windowFrame first committing w).lawfulTransition = true := by
  cases w with
  | free => rfl
  | staged p =>
    cases committing with
    | false => rfl
    | true => exact Window.lawfulTransition_live.mpr startFadeIn_lawful
  | live c p v x =>
    have hx := Window.lawfulTransition_live.mp hw
    cases p with
    | none => exact s.liveFrame_lawfulTransition first c .none v hx
    | amended p => cases committing <;> exact s.liveFrame_lawfulTransition first _ _ v hx
    | retire =>
      cases committing with
      | false => exact s.liveFrame_lawfulTransition first c .retire v hx
      | true =>
        simp only [State.windowFrame, State.retireFrame, if_true]
        split
        · rfl
        · rename_i hfade
          exact Window.lawfulTransition_retiring.mpr
            ⟨Nat.le_refl 1, Nat.pos_of_ne_zero hfade, Nat.le_of_lt_succ c.fade.isLt, startingWeight_range hx⟩
  | retiring c v o =>
    obtain ⟨-, -, hn, ht⟩ := Window.lawfulTransition_retiring.mp hw
    simp only [State.windowFrame]
    split
    · rfl
    · rename_i g hg
      simp only [FadeOut.next, Option.ite_none_right_eq_some, Option.some.injEq] at hg
      obtain ⟨hlt, rfl⟩ := hg
      exact Window.lawfulTransition_retiring.mpr ⟨Nat.le_add_left 1 o.k, hlt, hn, ht⟩

/-- Only a frame start and an end touch a transition. -/
theorem windowKept_lawfulTransition : WindowKept fun w => w.lawfulTransition = true where
  free := rfl
  staged _ := rfl
  amend w f hw := by
    cases w with
    | live => exact Window.lawfulTransition_live.mpr (Window.lawfulTransition_live.mp hw)
    | free | staged | retiring => exact hw
  retire w hw := by
    cases w with
    | staged p => rfl
    | live => exact Window.lawfulTransition_live.mpr (Window.lawfulTransition_live.mp hw)
    | free | retiring => exact hw
  discard w hw := by
    cases w with
    | staged p => rfl
    | live => exact Window.lawfulTransition_live.mpr (Window.lawfulTransition_live.mp hw)
    | free | retiring => exact hw
  holdTick w hw := by
    cases w with
    | live => exact Window.lawfulTransition_live.mpr (Window.lawfulTransition_live.mp hw)
    | free | staged | retiring => exact hw
  endTransition w hw := by
    cases w with
    | live c p v x => rfl
    | retiring c v o => rfl
    | free | staged => exact hw
  toSlated w hw := by
    cases w with
    | live => exact Window.lawfulTransition_live.mpr (Window.lawfulTransition_live.mp hw)
    | free | staged | retiring => exact hw
  frame s first committing w hw := s.windowFrame_lawfulTransition first committing hw

/-! ### Hold counts -/

/-- The hold count of a shown window is at most 65535 (R123). -/
def Window.holdInRange (w : Window) : Prop := (w.view.all fun v => decide (v.hold ≤ 65535)) = true

theorem View.refresh_hold {s : State} {f : WindowFields} {e : Option InputId} {v : View} (hv : v.hold ≤ 65535) :
    (s.refresh f e (some v)).hold ≤ 65535 := by
  show holdAfter (some v) e _ ≤ 65535
  unfold holdAfter
  dsimp only
  split
  · exact Nat.zero_le _
  · exact hv

theorem Window.holdInRange_live {c : WindowFields} {p : Work} {v : View} {x : Option LiveTransition} :
    (Window.live c p v x).holdInRange ↔ v.hold ≤ 65535 := by
  simp [Window.holdInRange, Window.view]

theorem Window.holdInRange_retiring {c : WindowFields} {v : View} {o : FadeOut} :
    (Window.retiring c v o).holdInRange ↔ v.hold ≤ 65535 := by
  simp [Window.holdInRange, Window.view]

theorem State.windowFrame_holdInRange (s : State) (first committing : Bool) {w : Window} (hw : w.holdInRange) :
    (s.windowFrame first committing w).holdInRange := by
  cases w with
  | free => rfl
  | staged p =>
    cases committing with
    | false => rfl
    | true => exact Window.holdInRange_live.mpr (Nat.zero_le _)
  | live c p v x =>
    have hv := Window.holdInRange_live.mp hw
    cases p with
    | none => exact Window.holdInRange_live.mpr (View.refresh_hold hv)
    | amended p => cases committing <;> exact Window.holdInRange_live.mpr (View.refresh_hold hv)
    | retire =>
      cases committing with
      | false => exact Window.holdInRange_live.mpr (View.refresh_hold hv)
      | true =>
        simp only [State.windowFrame, State.retireFrame, if_true]
        split
        · rfl
        · exact Window.holdInRange_retiring.mpr (View.refresh_hold hv)
  | retiring c v o =>
    have hv := Window.holdInRange_retiring.mp hw
    simp only [State.windowFrame]
    split
    · rfl
    · exact Window.holdInRange_retiring.mpr (View.refresh_hold hv)

theorem windowKept_holdInRange : WindowKept Window.holdInRange where
  free := rfl
  staged _ := rfl
  amend w f hw := by cases w <;> exact hw
  retire w hw := by
    cases w with
    | staged p => rfl
    | free | live | retiring => exact hw
  discard w hw := by
    cases w with
    | staged p => rfl
    | free | live | retiring => exact hw
  holdTick w hw := by
    have htick : ∀ v : View, v.hold ≤ 65535 →
        (if v.mode = .holding then { v with hold := min (v.hold + 1) 65535 } else v).hold ≤ 65535 := by
      intro v hv
      split
      · exact Nat.min_le_right ..
      · exact hv
    cases w with
    | free | staged => rfl
    | live c p v x => exact Window.holdInRange_live.mpr (htick v (Window.holdInRange_live.mp hw))
    | retiring c v o => exact Window.holdInRange_retiring.mpr (htick v (Window.holdInRange_retiring.mp hw))
  endTransition w hw := by
    cases w with
    | retiring => rfl
    | free | staged | live => exact hw
  toSlated w hw := by
    cases w with
    | free | staged => rfl
    | live => exact Window.holdInRange_live.mpr (Nat.zero_le _)
    | retiring => exact Window.holdInRange_retiring.mpr (Nat.zero_le _)
  frame s first committing w hw := s.windowFrame_holdInRange first committing hw

/-! ### The record of an input at its frame start and frame end -/

section
variable (p : Input) (slot : Option SlotId) (f : FeedFrame) (size : Option Size) (accepted : Bool)

/-- The writer writes a slot, and nothing else of the record (R99). -/
theorem Input.store_frame : p.store f = { p with slots := (p.store f).slots } := by
  unfold Input.store
  split <;> rfl

/-- A frame begins in the frame in progress and the slots (R107). -/
theorem Input.begin_frame : p.begin slot f = { p with inProgress := (p.begin slot f).inProgress, slots := (p.begin slot f).slots } := by
  unfold Input.begin
  split
  · rfl
  · rw [Input.store_frame]

/-- A frame ends in the frame in progress, the newest slot and the slots (R109). -/
theorem Input.complete_frame :
    p.complete size accepted =
      { p with inProgress := .none, newest := (p.complete size accepted).newest, slots := (p.complete size accepted).slots } := by
  unfold Input.complete
  split <;> rfl

end

theorem Presence.atFrameEnd_isAbsent (p : Presence) (size : Option Size) : (p.atFrameEnd size).isAbsent = p.isAbsent := by
  unfold Presence.atFrameEnd
  split
  · rfl
  · split
    · rfl
    · split <;> rfl
  · split
    · rfl
    · split <;> rfl

section
variable (s : State) (n : InputId) (b : Bool) (f : FeedFrame)

theorem State.begunInput_frame :
    s.begunInput n b f =
      { s.inputs[n] with
        presence := s.inputs[n].presence.atFrameStart s.inputs[n].inProgress
        changed := b
        lossCount := 0
        inProgress := (s.begunInput n b f).inProgress
        slots := (s.begunInput n b f).slots } := by
  unfold State.begunInput
  rw [Input.begin_frame]

theorem State.endedInput_frame :
    s.endedInput n b f =
      { s.inputs[n] with
        presence := s.inputs[n].presence.atFrameEnd f.size
        changed := b
        inProgress := .none
        newest := (s.endedInput n b f).newest
        slots := (s.endedInput n b f).slots } := by
  unfold State.endedInput
  rw [Input.complete_frame, Input.store_frame]

end

/-! ### The counts, one kind after another -/

section
variable {i : Instr} {s t : State}

theorem Change.keeps_stageCounts (h : Change i s t) (hs : ∀ k : ScreenId, s.stages[k].countInRange = true) (k : ScreenId) :
    t.stages[k].countInRange = true := by
  have hset : ∀ (f : ScreenId) (g : Stage), g.countInRange = true → (s.stages.set f g)[k].countInRange = true := by
    intro f g hg
    rw [vector_get_set]
    split
    · exact hg
    · exact hs k
  cases h
  case reset =>
    show State.reset.stages[k].countInRange = true
    rw [State.reset_stage]
    rfl
  case clearLayout =>
    have hempty : (Machine.resetLayout s).after.stages[k] = .empty := mapTable_get ..
    rw [hempty]
    rfl
  case place h f _ _ => exact hset f.screen _ rfl
  case amend h base f _ _ _ => exact hset base.screen _ rfl
  case retire h base _ _ => exact hset base.screen _ rfl
  case sealOpen f n hstage =>
    refine hset f _ ?_
    have hf := hs f
    rw [hstage] at hf
    exact hf
  case age f n _ => exact hset f _ (decide_eq_true (Nat.min_le_right ..))
  case discard f => exact hset f _ rfl
  case recallOn caller es f =>
    rw [State.recallScreen_stages]
    exact hset f _ rfl
  case frame f _ _ =>
    refine hset f _ ?_
    have hf := hs f
    cases hg : s.stages[f] with
    | empty => rfl
    | opened owner n => rwa [hg] at hf
    | sealed owner n => rfl
  all_goals exact hs k

theorem Change.keeps_expirySetting (h : Change i s t) (hs : s.expirySetting ≤ 255) : t.expirySetting ≤ 255 := by
  cases h
  case reset => exact State.reset_countLaw.2.2.1
  case expirySetting n hn => exact hn
  case recallOn => rwa [State.recallScreen_expirySetting]
  all_goals exact hs

theorem State.idleAtMinute_le {k : ScreenId} (hs : s.screens[k].idleCount ≤ 240) : s.idleAtMinute k ≤ 240 := by
  unfold State.idleAtMinute
  dsimp only
  split
  · exact Nat.min_le_right ..
  · exact hs

theorem Change.keeps_idleCounts (h : Change i s t) (hs : ∀ k : ScreenId, s.screens[k].idleCount ≤ 240) (k : ScreenId) :
    t.screens[k].idleCount ≤ 240 := by
  have hset : ∀ (f : ScreenId) (c : Screen), c.idleCount ≤ 240 → (s.screens.set f c)[k].idleCount ≤ 240 := by
    intro f c hc
    rw [vector_get_set]
    split
    · exact hc
    · exact hs k
  cases h
  case reset =>
    show State.reset.screens[k].idleCount ≤ 240
    rw [State.reset_screen]
    exact Nat.zero_le _
  case clearLayout =>
    have hzero : (Machine.resetLayout s).after.screens[k] = { s.screens[k] with idleCount := 0, probe := .empty } := mapTable_get ..
    rw [hzero]
    exact Nat.zero_le _
  case recallOn => rw [State.recallScreen_screens]; exact hs k
  case configureScreen f _ _ _ _ _ => exact hset f _ (hs f)
  case start f _ => exact hset f _ (Nat.zero_le _)
  case stop f _ => exact hset f _ (Nat.zero_le _)
  case probe f _ _ => exact hset f _ (hs f)
  case minute f => exact hset f _ (State.idleAtMinute_le (hs f))
  case frame f _ _ =>
    refine hset f _ ?_
    unfold State.frameScreen
    dsimp only
    split
    · exact Nat.zero_le _
    · exact hs f
  all_goals exact hs k

/-- The loss timeout and the loss counts in their ranges (R97, R104, R112). -/
def State.lossInRange (s : State) : Prop :=
  (4 ≤ s.lossTimeout ∧ s.lossTimeout ≤ 25) ∧
    ∀ n : InputId, s.inputs[n].lossCount ≤ 25 ∧ (s.inputs[n].presence.isAbsent = false → s.inputs[n].lossCount ≤ 24)

theorem State.lossInRange.setInput (hs : s.lossInRange) (n : InputId) {p : Input} (hp : p.lossCount ≤ 25)
    (hpresent : p.presence.isAbsent = false → p.lossCount ≤ 24) : (s.setInput n p).lossInRange := by
  refine ⟨hs.1, fun m => ?_⟩
  rw [State.setInput_inputs, vector_get_set]
  split
  · exact ⟨hp, hpresent⟩
  · exact hs.2 m

theorem Change.keeps_lossInRange (h : Change i s t) (hs : s.lossInRange) : t.lossInRange := by
  obtain ⟨htimeout, hcounts⟩ := hs
  cases h
  case reset =>
    obtain ⟨-, -, -, -, htimeout, hcounts, -⟩ := State.reset_countLaw
    exact ⟨htimeout, hcounts⟩
  case configureInputs n enables =>
    refine ⟨⟨Nat.le_max_left .., Nat.max_le.mpr ⟨by decide, Nat.min_le_left ..⟩⟩, fun m => ?_⟩
    have hget : (mapTable (fun i p => ({ p with eventEnable := enables i } : Input)) s.inputs)[m] =
        { s.inputs[m] with eventEnable := enables m } := mapTable_get ..
    dsimp only
    rw [hget]
    exact hcounts m
  case changedMark n b => exact State.lossInRange.setInput ⟨htimeout, hcounts⟩ n (hcounts n).1 (hcounts n).2
  case lossCount n hlow =>
    have hmax := htimeout.2
    exact State.lossInRange.setInput ⟨htimeout, hcounts⟩ n (by dsimp only; omega) fun _ => by dsimp only; omega
  case lose n b habsent =>
    exact State.lossInRange.setInput ⟨htimeout, hcounts⟩ n (Nat.succ_le_succ ((hcounts n).2 habsent)) nofun
  case feedStart n b f =>
    rw [State.begunInput_frame]
    exact State.lossInRange.setInput ⟨htimeout, hcounts⟩ n (Nat.zero_le _) fun _ => Nat.zero_le _
  case feedEnd n b f _ =>
    rw [State.endedInput_frame]
    refine State.lossInRange.setInput ⟨htimeout, hcounts⟩ n (hcounts n).1 fun hpresent => (hcounts n).2 ?_
    rwa [← Presence.atFrameEnd_isAbsent]
  case recallOn =>
    unfold State.lossInRange
    rw [State.recallScreen_lossTimeout, State.recallScreen_inputs]
    exact ⟨htimeout, hcounts⟩
  all_goals exact ⟨htimeout, hcounts⟩

theorem Change.keeps_timebase (h : Change i s t) (hs : s.timebase.inRange) : t.timebase.inRange := by
  cases h
  case reset =>
    obtain ⟨-, -, -, -, -, -, htimebase, -⟩ := State.reset_countLaw
    exact htimebase
  case timebase b hb => exact hb hs
  case recallOn => rwa [State.recallScreen_timebase]
  all_goals exact hs

theorem Change.keeps_keys (h : Change i s t) (hs : ∀ k : KeyId, s.keys[k].inRange) (k : KeyId) : t.keys[k].inRange := by
  cases h
  case reset =>
    obtain ⟨-, -, -, -, -, -, -, hkeys, -⟩ := State.reset_countLaw
    exact hkeys k
  case key f r hr =>
    rw [State.setKey_keys, vector_get_set]
    split
    · exact hr (hs f)
    · exact hs k
  case recallOn =>
    rw [State.recallScreen_keys]
    exact hs k
  all_goals exact hs k

theorem Change.keeps_pulse (h : Change i s t) (hs : s.events.pulseLeft ≤ pulseCycles) : t.events.pulseLeft ≤ pulseCycles := by
  cases h
  case reset => exact Nat.zero_le _
  case events e he => exact he hs
  case recallOn => rwa [State.recallScreen_events]
  all_goals exact hs

theorem Change.keeps_countLaw (h : Change i s t) (hs : s.CountLaw) : t.CountLaw := by
  obtain ⟨hholds, hstages, hexpiry, hidle, htimeout, hloss, htimebase, hkeys, hpulse⟩ := hs
  obtain ⟨htimeout', hloss'⟩ := h.keeps_lossInRange ⟨htimeout, hloss⟩
  exact ⟨h.keeps_windows windowKept_holdInRange hholds, h.keeps_stageCounts hstages, h.keeps_expirySetting hexpiry,
    h.keeps_idleCounts hidle, htimeout', hloss', h.keeps_timebase htimebase, h.keeps_keys hkeys, h.keeps_pulse hpulse⟩

theorem Change.keeps_sceneLaw (h : Change i s t) (hs : s.SceneLaw) : t.SceneLaw := by
  cases h
  case reset => exact State.reset_sceneLaw
  case scene n r hr =>
    intro m
    rw [State.setScene_scenes, vector_get_set]
    split
    · exact hr
    · exact hs m
  case recallOn =>
    unfold State.SceneLaw
    rw [State.recallScreen_scenes]
    exact hs
  all_goals exact hs

end

/-- Settles O11: law by law, as every move keeps each of them. -/
theorem everyStepKeepsTheRecordRanges : Obligations.EveryStepKeepsTheRecordRanges := by
  intro s t h
  refine ⟨fun hs => ?_, fun hs => ?_, fun hs => ?_⟩
  · exact step_keeps (P := State.TransitionLaw) (fun _ _ hlaw => hlaw)
      (fun _ _ _ hchange hlaw => hchange.keeps_windows windowKept_lawfulTransition hlaw) hs h
  · exact step_keeps (P := State.SceneLaw) (fun _ _ hlaw => hlaw) (fun _ _ _ hchange hlaw => hchange.keeps_sceneLaw hlaw) hs h
  · exact step_keeps (P := State.CountLaw) (fun _ _ hlaw => hlaw) (fun _ _ _ hchange hlaw => hchange.keeps_countLaw hlaw) hs h

end Sys2Proof.Machine
end

section
/-! PROOFS. Plans, pins and slots: a plan draws exactly from the slots that its frame start pins; what a move does to the plan and the
pins of a screen; the frame-store law of one input under a feed. -/

namespace Sys2Proof.Machine

/-! ### Slots that a plan draws from -/

/-- The entry draws from a slot: its picture or the picture of its from-side (R51, R58). -/
def PlanWindow.draws (w : PlanWindow) (q : SlotPicture) : Prop := w.picture = .slot q ∨ ∃ n, w.fromSide = some ⟨n, .slot q⟩

section
variable {s : State} {i : InputId} {j : SlotId}

theorem State.pictureOf_slot (f : WindowFields) (x : Option InputId) :
    (∃ q : SlotPicture, s.pictureOf f x = .slot q ∧ q.input = i ∧ q.slot = j) ↔ x = some i ∧ s.inputs[i].newest = some j := by
  unfold State.pictureOf
  cases x with
  | none => simp
  | some n =>
    cases hnewest : s.inputs[n].newest with
    | none =>
      simp only [hnewest, reduceCtorEq, false_and, exists_false, Option.some.injEq, false_iff]
      rintro ⟨rfl, hj⟩
      rw [hnewest] at hj
      cases hj
    | some g =>
      simp only [hnewest]
      constructor
      · rintro ⟨q, hq, rfl, rfl⟩
        cases hq
        exact ⟨rfl, hnewest⟩
      · rintro ⟨hn, hj⟩
        cases hn
        rw [hnewest] at hj
        cases hj
        exact ⟨_, rfl, rfl, rfl⟩

/-- A plan entry draws from slot j of input i when the window needs the input and j is its newest slot (R51, R58, R87). -/
theorem State.planWindow_draws {width height : Nat} {h : Handle} {w : PlanWindow} (hw : s.planWindow width height h = some w) :
    (∃ q : SlotPicture, w.draws q ∧ q.input = i ∧ q.slot = j) ↔ s.windows[h].needs i = true ∧ s.inputs[i].newest = some j := by
  have hplain : ∀ (f : WindowFields) (v : View), w.picture = s.pictureOf f (pictureInput f v) → w.fromSide = none →
      ((∃ q : SlotPicture, w.draws q ∧ q.input = i ∧ q.slot = j) ↔ pictureInput f v = some i ∧ s.inputs[i].newest = some j) := by
    intro f v hpicture hfrom
    rw [← State.pictureOf_slot f]
    simp [PlanWindow.draws, hpicture, hfrom]
  unfold State.planWindow at hw
  cases hwindow : s.windows[h] with
  | free => simp [hwindow, Window.shown] at hw
  | staged p => simp [hwindow, Window.shown] at hw
  | retiring f v o =>
    simp only [hwindow, Window.shown, Option.some.injEq] at hw
    subst hw
    simpa [Window.needs] using hplain f v rfl rfl
  | live f p v x =>
    simp only [hwindow, Window.shown, Option.some.injEq] at hw
    subst hw
    rcases x with _ | (_ | ⟨k, n, source⟩)
    · simpa [Window.needs] using hplain f v rfl rfl
    · simpa [Window.needs] using hplain f v rfl rfl
    · simp only [PlanWindow.draws, State.fromSideOf, Option.some.injEq, FromSide.mk.injEq, exists_eq_left', or_and_right, exists_or,
        State.pictureOf_slot, Window.needs, decide_eq_true_eq]

theorem State.planWindow_handle {width height : Nat} {h : Handle} {w : PlanWindow} (hw : s.planWindow width height h = some w) :
    w.handle = h := by
  unfold State.planWindow at hw
  split at hw
  · cases hw
  · cases hw
    rfl

theorem Window.shown_iff {w : Window} : w.isShown = true ↔ ∃ p, w.shown = some p := by
  cases w <;> simp [Window.isShown, Window.shown]

theorem Window.isShown_of_needs {w : Window} (h : w.needs i = true) : w.isShown = true := by
  cases w <;> simp_all [Window.needs, Window.isShown]

theorem State.mem_shownList {k : ScreenId} {h : Handle} :
    h ∈ s.shownList k ↔ s.windows[h].isShown = true ∧ s.windows[h].belongsTo k = true := by
  unfold State.shownList
  rw [mem_stackOrder]
  cases s.windows[h] <;> simp [Window.isShown, Window.listLayer]

theorem State.mem_makePlan {k : ScreenId} {w : PlanWindow} :
    w ∈ (s.makePlan k).windows ↔
      ∃ h : Handle, (s.windows[h].isShown = true ∧ s.windows[h].belongsTo k = true) ∧
        s.planWindow s.screens[k].format.width s.screens[k].format.height h = some w := by
  simp only [State.makePlan, List.mem_filterMap, State.mem_shownList]

theorem State.takePins_get (k : ScreenId) : (s.takePins k)[i] = if s.screenNeeds k i then s.inputs[i].newest else none :=
  mapTable_get ..

theorem State.screenNeeds_iff {k : ScreenId} :
    s.screenNeeds k i = true ↔ ∃ h : Handle, s.windows[h].belongsTo k = true ∧ s.windows[h].needs i = true := by
  simp [State.screenNeeds, -Fin.getElem_fin]

/-- The pins that a frame start takes are the slots that its plan draws from (R51, R87). -/
theorem State.takePins_iff {k : ScreenId} :
    (s.takePins k)[i] = some j ↔ ∃ w ∈ (s.makePlan k).windows, ∃ q : SlotPicture, w.draws q ∧ q.input = i ∧ q.slot = j := by
  rw [State.takePins_get, Option.ite_none_right_eq_some, State.screenNeeds_iff]
  constructor
  · rintro ⟨⟨h, hbelongs, hneeds⟩, hnewest⟩
    have hshown := Window.isShown_of_needs hneeds
    obtain ⟨⟨f, v⟩, hfv⟩ := Window.shown_iff.mp hshown
    have hw : ∃ w, s.planWindow s.screens[k].format.width s.screens[k].format.height h = some w := by
      unfold State.planWindow
      rw [hfv]
      exact ⟨_, rfl⟩
    obtain ⟨w, hw⟩ := hw
    exact ⟨w, State.mem_makePlan.mpr ⟨h, ⟨hshown, hbelongs⟩, hw⟩, (State.planWindow_draws hw).mpr ⟨hneeds, hnewest⟩⟩
  · rintro ⟨w, hmem, hdraws⟩
    obtain ⟨h, ⟨-, hbelongs⟩, hw⟩ := State.mem_makePlan.mp hmem
    obtain ⟨hneeds, hnewest⟩ := (State.planWindow_draws hw).mp hdraws
    exact ⟨⟨h, hbelongs, hneeds⟩, hnewest⟩

/-- An entry is held by its screen when the screen pins every slot that the entry draws from. -/
theorem State.entryHeld_iff {k : ScreenId} {w : PlanWindow} :
    s.entryHeld k w = true ↔ ∀ q : SlotPicture, w.draws q → s.screens[k].pins[q.input] = some q.slot := by
  have hpicture : ∀ p : Picture, s.pictureHeld k p = true ↔ ∀ q : SlotPicture, p = .slot q → s.screens[k].pins[q.input] = some q.slot := by
    intro p
    cases p <;> simp [State.pictureHeld, State.pins, -Fin.getElem_fin]
  simp only [State.entryHeld, Bool.and_eq_true, hpicture, PlanWindow.draws, or_imp, forall_and, forall_exists_index]
  refine and_congr_right fun _ => ?_
  cases w.fromSide with
  | none => simp
  | some f =>
    obtain ⟨n, p⟩ := f
    simp only [Option.all_some, hpicture, Option.some.injEq, FromSide.mk.injEq, and_imp]
    exact ⟨fun h q m _ => h q, fun h q hp => h q n rfl hp⟩

end

/-! ### Plans and pins under a move -/

theorem State.framed_screen (s : State) (k g : ScreenId) :
    (s.framed k).screens[g] =
      if k = g then ({ s.setStage k s.stages[k].afterFrame with windows := s.frameWindows k } : State).frameScreen k else s.screens[g] :=
  vector_get_set ..

theorem State.halted_screen (s : State) (k g : ScreenId) :
    (s.halted k).screens[g] = if k = g then s.screens[k].stop else s.screens[g] := vector_get_set ..

section
variable {i : Instr} {s t : State}

/-- What a move does to the plan and the pins of a screen: nothing, unless it drops both, by pin reset or by a command, or is a frame
start of the screen (R46, R84, R86). -/
theorem Change.plan_cases (h : Change i s t) (k : ScreenId) :
    (t.screens[k].plan = s.screens[k].plan ∧ t.screens[k].pins = s.screens[k].pins) ∨
      (t.screens[k].plan = none ∧ (∀ n : InputId, t.screens[k].pins[n] = none) ∧ (i = .pinReset ∨ i.bytes ≠ none)) ∨
      (i = .frameStart k ∧ t = s.framed k) := by
  have hsame : ∀ (g : ScreenId) (c : Screen), c.plan = s.screens[g].plan → c.pins = s.screens[g].pins →
      (s.setScreen g c).screens[k].plan = s.screens[k].plan ∧ (s.setScreen g c).screens[k].pins = s.screens[k].pins := by
    intro g c hplan hpins
    rw [State.setScreen_screens, vector_get_set]
    split
    · rename_i hg
      subst hg
      exact ⟨hplan, hpins⟩
    · exact ⟨rfl, rfl⟩
  have hpins : ∀ n : InputId, (Vector.replicate 12 (none : Option SlotId))[n] = none := fun n => Vector.getElem_replicate n.isLt
  cases h
  case reset hi =>
    have hscreen : ({ State.reset with pending := s.pending } : State).screens[k] = Screen.reset := State.reset_screen k
    rw [hscreen]
    exact .inr (.inl ⟨rfl, hpins, .inl hi⟩)
  case clearLayout =>
    have hscreen : (resetLayout s).after.screens[k] = { s.screens[k] with idleCount := 0, probe := .empty } := mapTable_get ..
    rw [hscreen]
    exact .inl ⟨rfl, rfl⟩
  case configureScreen g _ _ _ _ _ => exact .inl (hsame g _ rfl rfl)
  case start g _ => exact .inl (hsame g _ rfl rfl)
  case probe g _ _ => exact .inl (hsame g _ rfl rfl)
  case minute g => exact .inl (hsame g _ rfl rfl)
  case stop g hi =>
    rw [State.halted_screen]
    split
    · exact .inr (.inl ⟨rfl, hpins, .inr hi⟩)
    · exact .inl ⟨rfl, rfl⟩
  case frame g hi _ =>
    by_cases hg : g = k
    · subst hg
      exact .inr (.inr ⟨hi, rfl⟩)
    · rw [State.framed_screen, if_neg hg]
      exact .inl ⟨rfl, rfl⟩
  case recallOn =>
    rw [State.recallScreen_screens]
    exact .inl ⟨rfl, rfl⟩
  all_goals exact .inl ⟨rfl, rfl⟩

theorem State.planLaw_iff :
    s.PlanLaw ↔ ∀ (k : ScreenId) (p : Plan), s.screens[k].plan = some p → ∀ w ∈ p.windows, ∀ q : SlotPicture, w.draws q →
      s.screens[k].pins[q.input] = some q.slot := by
  simp only [State.PlanLaw, Option.all_eq_true, List.all_eq_true, State.entryHeld_iff]

theorem Change.keeps_planLaw (h : Change i s t) (hs : s.PlanLaw) : t.PlanLaw := by
  rw [State.planLaw_iff] at hs ⊢
  intro k p hp w hw q hq
  rcases h.plan_cases k with ⟨hplan, hpins⟩ | ⟨hplan, -⟩ | ⟨-, rfl⟩
  · rw [hpins]
    exact hs k p (hplan ▸ hp) w hw q hq
  · rw [hplan] at hp
    cases hp
  · rw [State.framed_screen, if_pos rfl] at hp ⊢
    cases hp
    exact State.takePins_iff.mpr ⟨w, hw, q, hq, rfl, rfl⟩

end

/-- Settles O8: a frame start makes the plan and takes the pins from one table, and every other move keeps both or drops both. -/
theorem everyStepKeepsPlansOnPinnedSlots : Obligations.EveryStepKeepsPlansOnPinnedSlots := fun _ _ hs h =>
  step_keeps (P := State.PlanLaw) (fun _ _ hlaw => hlaw) (fun _ _ _ hchange => hchange.keeps_planLaw) hs h

/-! ### The frame store at one input -/

/-- The frame-store law of an input record, the slots pinned being given (R88, R99, R103, R106 to R109). -/
def Input.slotLaw (p : Input) (pinned : SlotId → Bool) : Prop :=
  (∀ j : SlotId, pixelsWf p.slots[j].contents = true) ∧
  (∀ j : SlotId, p.inProgress.slot = some j → p.newest ≠ some j ∧ pinned j = false) ∧
  (∀ j : SlotId, p.newest = some j → p.slots[j].tag.inRange = true) ∧
  (∀ j : SlotId, pinned j = true → p.slots[j].tag.inRange = true ∧ p.newest.isSome = true) ∧
  (p.presence.isPresent = true → p.newest.isSome = true) ∧
  (p.newest = none → p.inProgress ≠ .none → p.inProgress.slot.isSome = true) ∧
  (p.presence.isAbsent = true → p.inProgress = .none)

theorem State.slotLaw_iff {s : State} : s.SlotLaw ↔ ∀ n : InputId, s.inputs[n].slotLaw (s.pinned n) := Iff.rfl

theorem FeedFrame.size_inRange {f : FeedFrame} {z : Size} (h : f.size = some z) : z.inRange = true := by
  unfold FeedFrame.size at h
  split at h
  · cases h
  · simp only [Option.ite_none_right_eq_some, Option.some.injEq] at h
    obtain ⟨⟨-, -, hrange⟩, rfl⟩ := h
    exact hrange

section
variable {p : Input} {pinned : SlotId → Bool}

/-- New pins are of the newest slot (R87). -/
theorem Input.slotLaw.repin {pinned' : SlotId → Bool} (h : p.slotLaw pinned)
    (hpins : ∀ j, pinned' j = true → pinned j = true ∨ p.newest = some j) : p.slotLaw pinned' := by
  obtain ⟨hwf, hwriting, hnewest, hpinned, hpresent, hstored, habsent⟩ := h
  refine ⟨hwf, fun j hj => ?_, hnewest, fun j hj => ?_, hpresent, hstored, habsent⟩
  · obtain ⟨hne, hfree⟩ := hwriting j hj
    refine ⟨hne, ?_⟩
    by_contra hpin
    rcases hpins j (by simpa using hpin) with hj | hj
    · rw [hfree] at hj
      cases hj
    · exact hne hj
  · rcases hpins j hj with hj | hj
    · exact hpinned j hj
    · exact ⟨hnewest j hj, hj ▸ rfl⟩

theorem pixelsWf_stored {old : Pixels} (f : FeedFrame) (h : pixelsWf old = true) : pixelsWf (storePixels old f.stored) = true := by
  obtain ⟨hrows, hcolumns⟩ := stored_bounds f
  exact pixelsWf_storePixels h hrows hcolumns

/-- What the writer stores of a frame leaves the tags, and the contents in their one form (R99, R108). -/
theorem Input.store_slots (f : FeedFrame) (j : SlotId) :
    (p.store f).slots[j].tag = p.slots[j].tag ∧
      (pixelsWf p.slots[j].contents = true → pixelsWf (p.store f).slots[j].contents = true) := by
  unfold Input.store
  split
  · exact ⟨rfl, id⟩
  · rename_i g _
    dsimp only
    rw [vector_get_set]
    split
    · rename_i hg
      subst hg
      exact ⟨rfl, pixelsWf_stored f⟩
    · exact ⟨rfl, id⟩

/-- The pixels that a feed delivers keep the law. -/
theorem Input.slotLaw.store (h : p.slotLaw pinned) (f : FeedFrame) : (p.store f).slotLaw pinned := by
  obtain ⟨hwf, hwriting, hnewest, hpinned, hpresent, hstored, habsent⟩ := h
  rw [Input.store_frame]
  refine ⟨fun j => (Input.store_slots f j).2 (hwf j), hwriting, fun j hj => ?_, fun j hj => ?_, hpresent, hstored, habsent⟩
  · exact (congrArg Size.inRange (Input.store_slots f j).1).trans (hnewest j hj)
  · exact ⟨(congrArg Size.inRange (Input.store_slots f j).1).trans (hpinned j hj).1, (hpinned j hj).2⟩

/-- A frame begins in a slot that is neither newest nor pinned, or in none (R107). -/
theorem Input.slotLaw.begin (h : p.slotLaw pinned) (hnot : p.presence.isAbsent = false) {slot : Option SlotId}
    (hslot : ∀ j, slot = some j → p.newest ≠ some j ∧ pinned j = false)
    (hnone : slot = none → ∀ j, p.newest = some j ∨ pinned j = true) (f : FeedFrame) : (p.begin slot f).slotLaw pinned := by
  obtain ⟨hwf, -, hnewest, hpinned, hpresent, -, -⟩ := h
  have habsent : ∀ {q : Prop}, p.presence.isAbsent = true → q := fun h => by rw [hnot] at h; cases h
  cases slot with
  | none =>
    refine ⟨hwf, nofun, hnewest, hpinned, hpresent, fun hno _ => ?_, habsent⟩
    rcases hnone rfl 0 with hj | hj
    · rw [show p.newest = none from hno] at hj
      cases hj
    · have hsome := (hpinned 0 hj).2
      rw [show p.newest = none from hno] at hsome
      cases hsome
  | some j =>
    have hbegun : ({ p with inProgress := .stored j f } : Input).slotLaw pinned := by
      refine ⟨hwf, fun g hg => ?_, hnewest, hpinned, hpresent, fun _ _ => rfl, habsent⟩
      cases hg
      exact hslot j rfl
    exact hbegun.store f

/-- A stored frame that the port accepts is the newest complete frame, with its size as tag (R101, R109). -/
theorem Input.complete_accepted {j : SlotId} (hslot : p.inProgress.slot = some j) (z : Size) :
    p.complete (some z) true =
      { p with inProgress := .none, newest := some j, slots := p.slots.set j { p.slots[j] with tag := z } } := by
  simp [Input.complete, hslot]

/-- Any other frame leaves the newest frame and the slots as they are (R102, R107, R108). -/
theorem Input.complete_refused {size : Option Size} {accepted : Bool}
    (h : p.inProgress.slot = none ∨ size = none ∨ accepted = false) : p.complete size accepted = { p with inProgress := .none } := by
  unfold Input.complete
  split
  · rename_i hslot
    rcases h with h | h | h
    · rw [hslot] at h
      cases h
    · cases h
    · cases h
  · rfl

/-- A frame ends as the newest complete frame or leaves no trace but its pixels (R101, R102, R109). -/
theorem Input.slotLaw.complete (h : p.slotLaw pinned) (hprogress : p.inProgress ≠ .none) {size : Option Size} {presence : Presence}
    (hsize : ∀ z, size = some z → z.inRange = true) (hpresence : presence.isPresent = true → size ≠ none) :
    (({ p with presence := presence } : Input).complete size presence.isPresent).slotLaw pinned := by
  obtain ⟨hwf, hwriting, hnewest, hpinned, -, hstored, -⟩ := h
  have hrefused : (p.inProgress.slot = none ∨ size = none ∨ presence.isPresent = false) →
      (({ p with presence := presence } : Input).complete size presence.isPresent).slotLaw pinned := by
    intro hcase
    rw [Input.complete_refused (p := { p with presence := presence }) hcase]
    refine ⟨hwf, nofun, hnewest, hpinned, fun hpresent => ?_, fun _ hno => absurd rfl hno, fun _ => rfl⟩
    have hslot : p.inProgress.slot = none := by
      rcases hcase with hslot | hnone | hfalse
      · exact hslot
      · exact absurd hnone (hpresence hpresent)
      · exact absurd hpresent (by simp [hfalse])
    refine Option.ne_none_iff_isSome.mp fun hno => ?_
    have hsome := hstored hno hprogress
    rw [hslot] at hsome
    cases hsome
  cases hslot : p.inProgress.slot with
  | none => exact hrefused (.inl hslot)
  | some j =>
    cases size with
    | none => exact hrefused (.inr (.inl rfl))
    | some z =>
      cases haccepted : presence.isPresent with
      | false =>
        rw [← haccepted]
        exact hrefused (.inr (.inr haccepted))
      | true =>
        have hslots : ∀ g : SlotId,
            (p.slots.set j { p.slots[j] with tag := z })[g] = if j = g then { p.slots[j] with tag := z } else p.slots[g] :=
          fun g => vector_get_set ..
        rw [Input.complete_accepted (p := { p with presence := presence }) hslot]
        refine ⟨fun g => ?_, nofun, fun g hg => ?_, fun g hg => ⟨?_, rfl⟩, fun _ => rfl, nofun, fun _ => rfl⟩
        · dsimp only
          rw [hslots]
          split
          · exact hwf j
          · exact hwf g
        · cases hg
          dsimp only
          rw [hslots, if_pos rfl]
          exact hsize z rfl
        · dsimp only
          rw [hslots]
          split
          · exact hsize z rfl
          · exact (hpinned g hg).1

end

section
variable {i : Instr} {s t : State}

theorem Presence.atFrameStart_isAbsent (p : Presence) (f : InProgress) : (p.atFrameStart f).isAbsent = false := by
  cases p <;> cases f <;> rfl

theorem Presence.isPresent_of_atFrameStart {p : Presence} {f : InProgress} (h : (p.atFrameStart f).isPresent = true) :
    p.isPresent = true := by
  cases p with
  | present => rfl
  | absent => cases h
  | acquiring => cases f <;> cases h

theorem Presence.atFrameEnd_none (p : Presence) : (p.atFrameEnd none).isPresent = false := by
  cases p <;> rfl

theorem State.writerSlot_eq_some {n : InputId} {j : SlotId} :
    s.writerSlot n = some j ↔
      (s.inputs[n].newest ≠ some j ∧ s.pinned n j = false) ∧ ∀ g, g < j → ¬(s.inputs[n].newest ≠ some g ∧ s.pinned n g = false) := by
  unfold State.writerSlot
  rw [find?_finRange_eq_some]
  simp [-Fin.getElem_fin]

theorem State.writerSlot_eq_none {n : InputId} :
    s.writerSlot n = none ↔ ∀ j, s.inputs[n].newest = some j ∨ s.pinned n j = true := by
  simp only [State.writerSlot, List.find?_eq_none, List.mem_finRange, true_imp_iff, Bool.and_eq_true, decide_eq_true_eq,
    Bool.not_eq_true', not_and_or, not_not, Bool.not_eq_false]

theorem Input.slotLaw.begunInput {n : InputId} (h : s.inputs[n].slotLaw (s.pinned n)) (b : Bool) (f : FeedFrame) :
    (s.begunInput n b f).slotLaw (s.pinned n) := by
  obtain ⟨hwf, hwriting, hnewest, hpinned, hpresent, hstored, -⟩ := h
  have hnot := Presence.atFrameStart_isAbsent s.inputs[n].presence s.inputs[n].inProgress
  have hbefore : ({ s.inputs[n] with
      presence := s.inputs[n].presence.atFrameStart s.inputs[n].inProgress
      changed := b
      lossCount := 0 } : Input).slotLaw (s.pinned n) := by
    refine ⟨hwf, hwriting, hnewest, hpinned, fun hp => hpresent (Presence.isPresent_of_atFrameStart hp), hstored, fun habsent => ?_⟩
    rw [hnot] at habsent
    cases habsent
  exact hbefore.begin hnot (fun j hj => (State.writerSlot_eq_some.mp hj).1) (fun hno => State.writerSlot_eq_none.mp hno) f

theorem Input.slotLaw.endedInput {n : InputId} (h : s.inputs[n].slotLaw (s.pinned n)) (hprogress : s.inputs[n].inProgress ≠ .none)
    (b : Bool) (f : FeedFrame) : (s.endedInput n b f).slotLaw (s.pinned n) := by
  have hchanged : ({ s.inputs[n] with changed := b } : Input).slotLaw (s.pinned n) := h
  have hstore := hchanged.store f
  have hkept : (({ s.inputs[n] with changed := b } : Input).store f).inProgress ≠ .none := by
    rw [Input.store_frame]
    exact hprogress
  have hdone := hstore.complete hkept (presence := s.inputs[n].presence.atFrameEnd f.size) (fun z hz => FeedFrame.size_inRange hz)
    fun hpresent hnone => by
      rw [hnone, Presence.atFrameEnd_none] at hpresent
      cases hpresent
  have heq : ({ ({ s.inputs[n] with changed := b } : Input).store f with presence := s.inputs[n].presence.atFrameEnd f.size } : Input) =
      ({ s.inputs[n] with presence := s.inputs[n].presence.atFrameEnd f.size, changed := b } : Input).store f := by
    unfold Input.store
    dsimp only
    split <;> rfl
  unfold State.endedInput
  rwa [heq] at hdone

/-- The pins after a move are pins before it, or of the newest slot (R87, R106). -/
theorem Change.pinned_cases (h : Change i s t) (n : InputId) (j : SlotId) (hpin : t.pinned n j = true) :
    s.pinned n j = true ∨ s.inputs[n].newest = some j := by
  obtain ⟨k, hk⟩ := State.pinned_iff.mp hpin
  have hk : t.screens[k].pins[n] = some j := by simpa [State.pins, -Fin.getElem_fin] using hk
  rcases h.plan_cases k with ⟨-, hpins⟩ | ⟨-, hnone, -⟩ | ⟨-, rfl⟩
  · refine .inl (State.pinned_iff.mpr ⟨k, ?_⟩)
    rw [hpins] at hk
    simpa [State.pins, -Fin.getElem_fin] using hk
  · rw [hnone] at hk
    cases hk
  · rw [State.framed_screen, if_pos rfl] at hk
    change (State.takePins _ k)[n] = some j at hk
    rw [State.takePins_get, Option.ite_none_right_eq_some] at hk
    exact .inr hk.2

theorem Change.keeps_slotLaw (h : Change i s t) (hs : s.SlotLaw) : t.SlotLaw := by
  have hset : ∀ (n : InputId) (p : Input), p.slotLaw (s.pinned n) → (s.setInput n p).SlotLaw := by
    intro n p hp m
    show (s.inputs.set n p)[m].slotLaw (s.pinned m)
    rw [vector_get_set]
    split
    · rename_i hm
      exact hm ▸ hp
    · exact hs m
  have hpins := h.pinned_cases
  cases h
  case reset => exact State.reset_slotLaw
  case configureInputs m enables =>
    intro n
    have hget : (mapTable (fun i p => ({ p with eventEnable := enables i } : Input)) s.inputs)[n] =
        { s.inputs[n] with eventEnable := enables n } := mapTable_get ..
    show (mapTable (fun i p => ({ p with eventEnable := enables i } : Input)) s.inputs)[n].slotLaw (s.pinned n)
    rw [hget]
    exact hs n
  case changedMark n b => exact hset n _ (hs n)
  case lossCount n _ => exact hset n _ (hs n)
  case lose n b _ =>
    obtain ⟨hwf, -, hnewest, hpinned, -⟩ := hs n
    exact hset n _ ⟨hwf, nofun, hnewest, hpinned, nofun, fun _ hno => absurd rfl hno, fun _ => rfl⟩
  case feedStart n b f => exact hset n _ (Input.slotLaw.begunInput (hs n) b f)
  case feedEnd n b f hprogress => exact hset n _ (Input.slotLaw.endedInput (hs n) hprogress b f)
  case recallOn caller es k =>
    refine State.slotLaw_iff.mpr fun n => ?_
    rw [State.recallScreen_inputs]
    exact Input.slotLaw.repin (hs n) (hpins n)
  all_goals exact State.slotLaw_iff.mpr fun n => Input.slotLaw.repin (hs n) (hpins n)

end

/-- Settles O7: a feed writes a slot that is neither newest nor pinned, and a screen pins newest slots only. -/
theorem everyStepKeepsTheSlotLaw : Obligations.EveryStepKeepsTheSlotLaw := fun _ _ hs h =>
  step_keeps (P := State.SlotLaw) (fun _ _ hlaw => hlaw) (fun _ _ _ hchange => hchange.keeps_slotLaw) hs h

end Sys2Proof.Machine
end

section
/-! PROOFS. The screen law: no move but a frame start of its own screen makes a window shown, or starts a transition on one. -/

namespace Sys2Proof.Machine

/-- Where the window is shown afterwards, it was shown before, on the same screen, and no transition starts on it. -/
def Window.calm (w v : Window) : Prop :=
  v.isShown = true → w.isShown = true ∧ v.screen = w.screen ∧ (w.still = true → v.still = true)

section
variable {w v : Window}

theorem Window.calm_refl : w.calm w := fun h => ⟨h, rfl, id⟩

theorem Window.calm_of_hidden (h : v.isShown = false) : w.calm v := fun hv => by
  rw [h] at hv
  cases hv

theorem Window.still_of_hidden (h : w.isShown = false) : w.still = true := by
  cases w with
  | free | staged => rfl
  | live | retiring => cases h

theorem Window.calm_live {c : WindowFields} {p q : Work} {v u : View} {x y : Option LiveTransition} (h : x = none → y = none) :
    (Window.live c p v x).calm (.live c q u y) := by
  refine fun _ => ⟨rfl, rfl, fun hstill => ?_⟩
  cases x with
  | none =>
    rw [h rfl]
    rfl
  | some x => cases hstill

theorem Window.calm_amend (w : Window) (f : WindowFields) : w.calm (w.amend f) := by
  cases w with
  | live => exact Window.calm_live id
  | free | staged => exact Window.calm_of_hidden rfl
  | retiring => exact Window.calm_refl

theorem Window.calm_retire (w : Window) : w.calm w.retire := by
  cases w with
  | live => exact Window.calm_live id
  | free | staged => exact Window.calm_of_hidden rfl
  | retiring => exact Window.calm_refl

theorem Window.calm_discard (w : Window) : w.calm w.discard := by
  cases w with
  | live => exact Window.calm_live id
  | free | staged => exact Window.calm_of_hidden rfl
  | retiring => exact Window.calm_refl

theorem Window.calm_holdTick (w : Window) : w.calm w.holdTick := by
  cases w with
  | live => exact Window.calm_live id
  | free | staged => exact Window.calm_of_hidden rfl
  | retiring => exact fun _ => ⟨rfl, rfl, nofun⟩

theorem Window.calm_toSlated (w : Window) : w.calm w.toSlated := by
  cases w with
  | live => exact Window.calm_live id
  | free | staged => exact Window.calm_of_hidden rfl
  | retiring => exact fun _ => ⟨rfl, rfl, nofun⟩

theorem Window.calm_endTransition (w : Window) : w.calm w.endTransition := by
  cases w with
  | live => exact Window.calm_live fun _ => rfl
  | free | staged | retiring => exact Window.calm_of_hidden rfl

theorem Window.endTransition_still (w : Window) : w.endTransition.still = true := by
  cases w <;> rfl

/-- A frame start keeps a window on its screen (R4). -/
theorem State.windowFrame_screen (s : State) (first committing : Bool) (hkeeps : w.keepsScreen = true)
    (hshown : (s.windowFrame first committing w).isShown = true) : (s.windowFrame first committing w).screen = w.screen := by
  cases w with
  | free => rfl
  | staged p => cases committing <;> rfl
  | live c p v x =>
    cases p with
    | none => rfl
    | amended p =>
      cases committing with
      | false => rfl
      | true =>
        have hscreen : p.screen = c.screen := by simpa [Window.keepsScreen] using hkeeps
        exact congrArg some hscreen
    | retire =>
      cases committing with
      | false => rfl
      | true =>
        simp only [State.windowFrame, State.retireFrame, if_true] at hshown ⊢
        split at hshown
        · cases hshown
        · rename_i hfade
          rw [if_neg hfade]
          rfl
  | retiring c v o =>
    simp only [State.windowFrame] at hshown ⊢
    split at hshown
    · cases hshown
    · rfl

end

section
variable {i : Instr} {s t : State}

/-- The law of a screen record, given that a window is shown on it or not, and that its windows are still or not (R84, R89, R91). -/
def Screen.lawful (c : Screen) (shown still : Prop) : Prop :=
  (c.mode = .off → c.plan = none ∧ (∀ n : InputId, c.pins[n] = none) ∧ c.probe.isWaiting = false ∧ still) ∧
  (shown → c.idleCount = 0 ∧ c.mode ≠ .standby)

/-- Every window of screen k is without a transition. -/
def State.stillOn (s : State) (k : ScreenId) : Prop := ∀ h : Handle, s.windows[h].belongsTo k = true → s.windows[h].still = true

theorem State.screenLaw_iff : s.ScreenLaw ↔ ∀ k : ScreenId, s.screens[k].lawful (s.hasShown k = true) (s.stillOn k) := Iff.rfl

theorem Screen.lawful.mono {c : Screen} {shown still shown' still' : Prop} (h : c.lawful shown still) (hshown : shown' → shown)
    (hstill : still → still') : c.lawful shown' still' :=
  ⟨fun hoff => by
    obtain ⟨hplan, hpins, hprobe, hs⟩ := h.1 hoff
    exact ⟨hplan, hpins, hprobe, hstill hs⟩, fun hs => h.2 (hshown hs)⟩

theorem State.hasShown_of_calm {k : ScreenId} (hcalm : ∀ h : Handle, s.windows[h].belongsTo k = true ∨ t.windows[h].belongsTo k = true →
    s.windows[h].calm t.windows[h]) (hshown : t.hasShown k = true) : s.hasShown k = true := by
  obtain ⟨h, hh, hbelongs⟩ := State.hasShown_iff.mp hshown
  obtain ⟨hs, hscreen, -⟩ := hcalm h (.inr hbelongs) hh
  rw [Window.belongsTo_iff, hscreen, ← Window.belongsTo_iff] at hbelongs
  exact State.hasShown_iff.mpr ⟨h, hs, hbelongs⟩

theorem State.stillOn_of_calm {k : ScreenId} (hcalm : ∀ h : Handle, s.windows[h].belongsTo k = true ∨ t.windows[h].belongsTo k = true →
    s.windows[h].calm t.windows[h]) (hstill : s.stillOn k) : t.stillOn k := by
  intro h hbelongs
  cases hshown : t.windows[h].isShown with
  | false => exact Window.still_of_hidden hshown
  | true =>
    obtain ⟨-, hscreen, hkeep⟩ := hcalm h (.inr hbelongs) hshown
    refine hkeep (hstill h ?_)
    rw [Window.belongsTo_iff] at hbelongs ⊢
    exact hscreen ▸ hbelongs

/-- Calm windows keep the law of every screen record that stays. -/
theorem State.ScreenLaw.calm (hs : s.ScreenLaw) (hscreens : t.screens = s.screens)
    (hcalm : ∀ h : Handle, s.windows[h].calm t.windows[h]) : t.ScreenLaw := by
  refine State.screenLaw_iff.mpr fun k => ?_
  rw [hscreens]
  exact Screen.lawful.mono (hs k) (State.hasShown_of_calm fun h _ => hcalm h) (State.stillOn_of_calm fun h _ => hcalm h)

/-- A lawful record in the place of one keeps the law. -/
theorem State.ScreenLaw.setScreen (hs : s.ScreenLaw) (k : ScreenId) {c : Screen} (hc : c.lawful (s.hasShown k = true) (s.stillOn k)) :
    (s.setScreen k c).ScreenLaw := by
  refine State.screenLaw_iff.mpr fun g => ?_
  rw [State.setScreen_screens, vector_get_set]
  split
  · rename_i hg
    exact hg ▸ hc
  · exact hs g

theorem State.setWindow_calm {h : Handle} {w : Window} (hw : s.windows[h].calm w) (g : Handle) :
    s.windows[g].calm (s.windows.set h w)[g] := by
  rw [vector_get_set]
  split
  · rename_i hg
    exact hg ▸ hw
  · exact Window.calm_refl

/-- What a frame start of screen k leaves on screen g: its windows stay its windows. -/
theorem State.framed_calm {k g : ScreenId} (hs : s.StageLaw) (hne : k ≠ g) (h : Handle)
    (hbelongs : s.windows[h].belongsTo g = true ∨ (s.framed k).windows[h].belongsTo g = true) :
    s.windows[h].calm (s.framed k).windows[h] := by
  have hwindow : (s.framed k).windows[h] = _ := s.frameWindows_get k h
  rw [hwindow] at hbelongs ⊢
  split at hbelongs
  · rename_i hk
    rw [if_pos hk]
    rcases hbelongs with hg | hg
    · exact absurd (Window.belongsTo_unique hk hg) hne
    · intro hshown
      rw [Window.belongsTo_iff, State.frameWindow, State.windowFrame_screen s _ _ (hs.1 h) hshown, ← Window.belongsTo_iff] at hg
      exact absurd (Window.belongsTo_unique hk hg) hne
  · rename_i hk
    rw [if_neg hk]
    exact Window.calm_refl

theorem State.ScreenLaw.framed (hs : s.ScreenLaw) (hstages : s.StageLaw) {k : ScreenId} (hmode : s.screens[k].mode ≠ .off) :
    (s.framed k).ScreenLaw := by
  refine State.screenLaw_iff.mpr fun g => ?_
  rw [State.framed_screen]
  split
  · rename_i hg
    subst hg
    let u : State := { s.setStage k s.stages[k].afterFrame with windows := s.frameWindows k }
    have hshown : (s.framed k).hasShown k = u.hasShown k := rfl
    have hold : u.screens[k].mode ≠ .off := hmode
    rw [hshown]
    show (u.frameScreen k).lawful _ _
    cases hu : u.hasShown k with
    | true =>
      refine ⟨fun hoff => ?_, fun _ => ⟨?_, ?_⟩⟩
      · simp [State.frameScreen, hu] at hoff
      · simp [State.frameScreen, hu]
      · simp [State.frameScreen, hu]
    | false =>
      refine ⟨fun hoff => absurd ?_ hold, nofun⟩
      simpa [State.frameScreen, hu] using hoff
  · rename_i hg
    exact Screen.lawful.mono (hs g) (State.hasShown_of_calm (State.framed_calm hstages hg)) (State.stillOn_of_calm (State.framed_calm hstages hg))

theorem State.ScreenLaw.halted (hs : s.ScreenLaw) (k : ScreenId) : (s.halted k).ScreenLaw := by
  have hcalm : ∀ h : Handle, s.windows[h].calm (s.halted k).windows[h] := by
    intro h
    rw [State.halted_window]
    split
    · exact Window.calm_endTransition _
    · exact Window.calm_refl
  refine State.screenLaw_iff.mpr fun g => ?_
  rw [State.halted_screen]
  split
  · rename_i hg
    subst hg
    refine ⟨fun _ => ⟨rfl, fun n => Vector.getElem_replicate n.isLt, ?_, fun h hbelongs => ?_⟩, fun _ => ⟨rfl, nofun⟩⟩
    · show (s.screens[k].probe.stop _).isWaiting = false
      cases s.screens[k].probe <;> rfl
    · rw [State.halted_window] at hbelongs ⊢
      split
      · exact Window.endTransition_still _
      · rename_i hk
        rw [if_neg hk] at hbelongs
        exact absurd hbelongs hk
  · exact Screen.lawful.mono (hs g) (State.hasShown_of_calm fun h _ => hcalm h) (State.stillOn_of_calm fun h _ => hcalm h)

/-- A screen that keeps a shown window does not count idle minutes, and so does not enter STANDBY (R89, R90). -/
theorem State.ScreenLaw.minute (hs : s.ScreenLaw) (k : ScreenId) :
    ({ s.screens[k] with
        idleCount := s.idleAtMinute k
        mode := if s.entersStandby k then .standby else s.screens[k].mode } : Screen).lawful (s.hasShown k = true) (s.stillOn k) := by
  obtain ⟨hoff, hshown⟩ := hs k
  refine ⟨fun hmode => ?_, fun hwindow => ?_⟩
  · refine hoff ?_
    dsimp only at hmode
    split at hmode
    · cases hmode
    · exact hmode
  · obtain ⟨hidle, hmode⟩ := hshown hwindow
    have hcount : s.idleAtMinute k = 0 := by simp [State.idleAtMinute, hwindow, hidle, -Fin.getElem_fin]
    have hstays : s.entersStandby k = false := by
      simp only [State.entersStandby, hcount, decide_eq_false_iff_not]
      rintro ⟨-, hlimit, hle⟩
      exact hlimit (Fin.ext (Nat.le_zero.mp hle))
    refine ⟨hcount, ?_⟩
    dsimp only
    rw [hstays]
    exact hmode

theorem Change.keeps_screenLaw (h : Change i s t) (hstages : s.StageLaw) (hs : s.ScreenLaw) : t.ScreenLaw := by
  cases h
  case reset => exact State.reset_screenLaw
  case clearLayout =>
    have hfree : ∀ h : Handle, (resetLayout s).after.windows[h] = .free := fun h => mapTable_get ..
    have hcalm : ∀ h : Handle, s.windows[h].calm (resetLayout s).after.windows[h] := fun h => by
      rw [hfree]
      exact Window.calm_of_hidden rfl
    refine State.screenLaw_iff.mpr fun k => ?_
    have hscreen : (resetLayout s).after.screens[k] = { s.screens[k] with idleCount := 0, probe := .empty } := mapTable_get ..
    have hlaw := Screen.lawful.mono (hs k) (State.hasShown_of_calm fun h _ => hcalm h) (State.stillOn_of_calm fun h _ => hcalm h)
    rw [hscreen]
    refine ⟨fun hoff => ?_, fun hshown => ⟨rfl, (hlaw.2 hshown).2⟩⟩
    obtain ⟨hplan, hpins, -, hstill⟩ := hlaw.1 hoff
    exact ⟨hplan, hpins, rfl, hstill⟩
  case place h f _ _ => exact hs.calm rfl (State.setWindow_calm (Window.calm_of_hidden rfl))
  case amend h base f _ _ _ => exact hs.calm rfl (State.setWindow_calm (Window.calm_amend _ f))
  case retire h base _ _ => exact hs.calm rfl (State.setWindow_calm (Window.calm_retire _))
  case endTransition h _ =>
    rw [Window.finishTransition_eq]
    exact hs.calm rfl (State.setWindow_calm (Window.calm_endTransition _))
  case endHold h => exact hs.calm rfl (State.setWindow_calm (Window.calm_toSlated _))
  case discard k =>
    refine hs.calm rfl fun h => ?_
    rw [State.discardStage_windows]
    split
    · exact Window.calm_discard _
    · exact Window.calm_refl
  case holdTicks =>
    refine hs.calm rfl fun h => ?_
    rcases s.holdTicks_window h with heq | heq
    · exact (congrArg (s.windows[h].calm ·) heq).mpr Window.calm_refl
    · exact (congrArg (s.windows[h].calm ·) heq).mpr (Window.calm_holdTick _)
  case recallOn caller es k =>
    refine hs.calm (State.recallScreen_screens ..) fun h => ?_
    rcases State.recallScreen_window s caller es k h with heq | ⟨-, -, heq⟩ | ⟨-, f, -, heq⟩
    · rw [heq]
      exact Window.calm_refl
    · rw [heq]
      exact Window.calm_retire _
    · rw [heq]
      exact Window.calm_of_hidden rfl
  case configureScreen k _ _ _ _ _ => exact hs.setScreen k (hs k)
  case start k _ => exact hs.setScreen k ⟨nofun, fun _ => ⟨rfl, nofun⟩⟩
  case probe k p hwaiting =>
    obtain ⟨hoff, hshown⟩ := hs k
    refine hs.setScreen k ⟨fun hmode => ?_, hshown⟩
    obtain ⟨hplan, hpins, -, hstill⟩ := hoff hmode
    exact ⟨hplan, hpins, by simpa using fun hp => hwaiting hp hmode, hstill⟩
  case minute k => exact hs.setScreen k (hs.minute k)
  case stop k _ => exact hs.halted k
  case frame k _ hmode => exact hs.framed hstages hmode
  all_goals exact hs

end

/-- Settles O9: the stage law, which keeps a window on its screen, is carried along. -/
theorem everyStepKeepsTheScreenLaw : Obligations.EveryStepKeepsTheScreenLaw := fun _ _ hstages hs h =>
  (step_keeps (P := fun u => u.StageLaw ∧ u.ScreenLaw) (fun _ _ hlaw => hlaw)
    (fun _ _ _ hchange hlaw => ⟨hchange.keeps_stageLaw hlaw.1, hchange.keeps_screenLaw hlaw.1 hlaw.2⟩) ⟨hstages, hs⟩ h).2

end Sys2Proof.Machine
end

section
/-! PROOFS. The carousel law: what an advance makes of a record, and chains of FOLLOW clocks, which have as many carousels as their
length says, and so at most sixteen. -/

namespace Sys2Proof.Machine

/-! ### Records under an advance -/

/-- A record that an advance makes lawful, whatever its remaining field: its list is lawful and its index inside it (R134, R135). -/
def Carousel.playable (c : Carousel) : Prop :=
  c.entries.length ≤ Config.maxCarouselEntries ∧ (∀ e ∈ c.entries, 1 ≤ e.dwell ∧ e.dwell ≤ 65535) ∧ c.index < c.entries.length

section
variable {c : Carousel}

theorem Carousel.playable_of_lawful (h : c.lawful = true) (hne : c.entries ≠ []) : c.playable := by
  obtain ⟨hlength, hdwell, -, hindex⟩ := Carousel.lawful_iff.mp h
  exact ⟨hlength, hdwell, (hindex hne).1⟩

/-- A playable record whose remaining field is in its range is lawful. -/
theorem Carousel.playable.lawful (h : c.playable) (hremaining : 1 ≤ c.remaining ∧ c.remaining ≤ 65535) : c.lawful = true := by
  obtain ⟨hlength, hdwell, hindex⟩ := h
  refine Carousel.lawful_iff.mpr ⟨hlength, hdwell, fun hnil => ?_, fun _ => ⟨hindex, hremaining⟩⟩
  rw [hnil] at hindex
  cases hindex

theorem Carousel.dwell_eq {n : Nat} {e : Entry} (h : c.entries[n]? = some e) : c.dwell n = e.dwell := by
  simp [Carousel.dwell, h]

theorem Carousel.playable.dwell_range (h : c.playable) {n : Nat} (hn : n < c.entries.length) : 1 ≤ c.dwell n ∧ c.dwell n ≤ 65535 := by
  rw [Carousel.dwell_eq (List.getElem?_eq_getElem hn)]
  exact h.2.1 _ (List.getElem_mem hn)

theorem Carousel.playable.goTo_lawful (h : c.playable) {n : Nat} (hn : n < c.entries.length) : (c.goTo n).lawful = true :=
  Carousel.playable.lawful (c := c.goTo n) ⟨h.1, h.2.1, hn⟩ (h.dwell_range hn)

theorem Carousel.playable.restart_lawful (h : c.playable) (state : CarouselState) :
    ({ c with state := state, remaining := c.dwell c.index } : Carousel).lawful = true :=
  Carousel.playable.lawful (c := { c with state := state, remaining := c.dwell c.index }) h (h.dwell_range h.2.2)

theorem Carousel.playable.advance_lawful (h : c.playable) (present : InputId → Bool) : (c.advance present).1.lawful = true := by
  have hlength : 0 < c.entries.length := Nat.lt_of_le_of_lt (Nat.zero_le _) h.2.2
  unfold Carousel.advance
  split
  · split
    · split
      · exact h.restart_lawful c.state
      · exact h.goTo_lawful (Nat.mod_lt _ hlength)
    · split
      · exact h.restart_lawful .ended
      · rename_i n hn
        have hmem := List.mem_of_find?_eq_some hn
        exact h.goTo_lawful (by simpa using (List.mem_filter.mp hmem).2)
  · split
    · rename_i hnext
      exact h.goTo_lawful hnext
    · split
      · exact h.goTo_lawful hlength
      · exact h.restart_lawful .ended

theorem Carousel.applyRequest_lawful (h : c.lawful = true) : c.applyRequest.lawful = true := by
  obtain ⟨hlength, hdwell, hempty, hindex⟩ := Carousel.lawful_iff.mp h
  have hkept : ∀ state : CarouselState, (c.entries = [] → state = .stopped) →
      ({ c with state := state, request := .none } : Carousel).lawful = true := fun state hstate =>
    Carousel.lawful_iff.mpr ⟨hlength, hdwell, fun hnil => ⟨hstate hnil, rfl, (hempty hnil).2.2⟩, hindex⟩
  unfold Carousel.applyRequest
  split
  · rename_i hrequest
    refine hkept .running fun hnil => ?_
    rw [(hempty hnil).2.1] at hrequest
    cases hrequest
  · rename_i hrequest
    have hne : c.entries ≠ [] := fun hnil => by
      rw [(hempty hnil).2.1] at hrequest
      cases hrequest
    have hplay := Carousel.playable_of_lawful h hne
    have hfirst := List.length_pos_iff.mpr hne
    exact Carousel.playable.lawful (c := { c.goTo 0 with state := .running, request := .none }) ⟨hlength, hdwell, hfirst⟩
      (hplay.dwell_range hfirst)
  · exact hkept .stopped fun _ => rfl
  · exact hkept .stopped fun _ => rfl
  · exact hkept c.state fun hnil => (hempty hnil).1

theorem Carousel.rewind_lawful (h : c.lawful = true) : c.rewind.lawful = true := by
  obtain ⟨hlength, hdwell, -, -⟩ := Carousel.lawful_iff.mp h
  refine Carousel.lawful_iff.mpr ⟨hlength, hdwell, fun hnil => ⟨rfl, rfl, rfl, ?_⟩, fun hne => ⟨List.length_pos_iff.mpr hne, ?_⟩⟩
  · change c.entries = [] at hnil
    show c.dwell 0 = 0
    simp [Carousel.dwell, hnil]
  · exact (Carousel.playable_of_lawful h hne).dwell_range (List.length_pos_iff.mpr hne)

theorem Carousel.define_lawful (mode : CarouselMode) (skip : Bool) (clock : Clock) {entries : List Entry}
    (hlength : entries.length ≤ Config.maxCarouselEntries) (hdwell : ∀ e ∈ entries, 1 ≤ e.dwell ∧ e.dwell ≤ 65535) :
    (Carousel.define mode skip clock entries).lawful = true := by
  refine Carousel.lawful_iff.mpr ⟨hlength, hdwell, fun hnil => ⟨rfl, rfl, rfl, ?_⟩, fun hne => ⟨List.length_pos_iff.mpr hne, ?_⟩⟩
  · change entries = [] at hnil
    simp [Carousel.define, hnil]
  · have hfirst := List.length_pos_iff.mpr hne
    have hplay : (Carousel.define mode skip clock entries).playable := ⟨hlength, hdwell, hfirst⟩
    exact hplay.dwell_range hfirst

end

/-- A cascade leaves lawful records, if the carousel that it starts at can advance and the others are lawful (R143 to R145). -/
theorem advanceChain_lawful (present : InputId → Bool) (fuel : Nat) (k : CarouselId) (cs : Vector Carousel 16)
    (hlaw : ∀ f : CarouselId, f ≠ k → cs[f].lawful = true) (hk : cs[k].playable) (hfuel : fuel = 0 → cs[k].lawful = true)
    (f : CarouselId) : (advanceChain present fuel k cs).1[f].lawful = true := by
  induction fuel generalizing k cs f with
  | zero =>
    by_cases hf : f = k
    · subst hf
      exact hfuel rfl
    · exact hlaw f hf
  | succ fuel ih =>
    have hfirst : ∀ g : CarouselId, (cs.set k (cs[k].advance present).1)[g].lawful = true := by
      intro g
      rw [vector_get_set]
      split
      · exact hk.advance_lawful present
      · rename_i hg
        exact hlaw g (Ne.symm hg)
    have hfold : ∀ (l : List CarouselId) (acc : Vector Carousel 16 × Bool), (∀ g : CarouselId, acc.1[g].lawful = true) →
        ∀ g : CarouselId, (l.foldl
          (fun acc g =>
            if acc.1[g].followsRunning k then
              let q := advanceChain present fuel g acc.1
              (q.1, acc.2 || q.2)
            else acc) acc).1[g].lawful = true := by
      intro l
      induction l with
      | nil => exact fun acc hacc => hacc
      | cons g l ihl =>
        intro acc hacc
        refine ihl _ ?_
        dsimp only
        split
        · rename_i hfollows
          have hne := Carousel.entries_of_lawful_running (hacc g) (Carousel.followsRunning_iff.mp hfollows).1
          exact ih g acc.1 (fun m _ => hacc m) (Carousel.playable_of_lawful (hacc g) hne) fun _ => hacc g
        · exact hacc
    unfold advanceChain
    dsimp only
    split
    · exact hfirst f
    · exact hfirst f
    · exact hfirst f
    · exact hfold _ _ hfirst f

/-! ### Chains of clocks -/

section
variable {cs ds : Vector Carousel 16}

theorem endsAtTimer_timer {k : CarouselId} (h : cs[k].clock = .timer) (n : Nat) : endsAtTimer cs (n + 1) k = true := by
  simp only [endsAtTimer, h]

theorem endsAtTimer_follow {k m : CarouselId} (h : cs[k].clock = .follow m) (n : Nat) :
    endsAtTimer cs (n + 1) k = endsAtTimer cs n m := by
  simp only [endsAtTimer, h]

theorem endsAtTimer_congr (h : ∀ k : CarouselId, ds[k].clock = cs[k].clock) (n : Nat) (k : CarouselId) :
    endsAtTimer ds n k = endsAtTimer cs n k := by
  induction n generalizing k with
  | zero => rfl
  | succ n ih =>
    have hk := h k
    cases hclock : cs[k].clock with
    | timer => rw [endsAtTimer_timer hclock, endsAtTimer_timer (hk.trans hclock)]
    | follow m => rw [endsAtTimer_follow hclock, endsAtTimer_follow (hk.trans hclock), ih]

theorem endsAtTimer_succ {n : Nat} {k : CarouselId} (h : endsAtTimer cs n k = true) : endsAtTimer cs (n + 1) k = true := by
  induction n generalizing k with
  | zero => cases h
  | succ n ih =>
    cases hclock : cs[k].clock with
    | timer => exact endsAtTimer_timer hclock _
    | follow m =>
      rw [endsAtTimer_follow hclock] at h ⊢
      exact ih h

theorem endsAtTimer_mono {n m : Nat} (hnm : n ≤ m) {k : CarouselId} (h : endsAtTimer cs n k = true) : endsAtTimer cs m k = true := by
  induction hnm with
  | refl => exact h
  | step _ ih => exact endsAtTimer_succ ih

/-- The chain that starts at k has n carousels. -/
def chainLength (cs : Vector Carousel 16) (n : Nat) (k : CarouselId) : Prop :=
  endsAtTimer cs n k = true ∧ ∀ m, endsAtTimer cs m k = true → n ≤ m

theorem chainLength_unique {n m : Nat} {k : CarouselId} (hn : chainLength cs n k) (hm : chainLength cs m k) : n = m :=
  Nat.le_antisymm (hn.2 m hm.1) (hm.2 n hn.1)

theorem exists_chainLength {n : Nat} {k : CarouselId} (h : endsAtTimer cs n k = true) : ∃ m, chainLength cs m k := by
  have hex : ∃ n, endsAtTimer cs n k = true := ⟨n, h⟩
  exact ⟨Nat.find hex, Nat.find_spec hex, fun m hm => Nat.find_min' hex hm⟩

/-- The chain that starts at the carousel followed is one shorter. -/
theorem chainLength_next {n : Nat} {k : CarouselId} (h : chainLength cs (n + 2) k) : ∃ m, chainLength cs (n + 1) m := by
  obtain ⟨hends, hmin⟩ := h
  cases hclock : cs[k].clock with
  | timer =>
    have hle := hmin 1 (endsAtTimer_timer hclock 0)
    omega
  | follow m =>
    rw [endsAtTimer_follow hclock] at hends
    refine ⟨m, hends, fun l hl => ?_⟩
    have hle := hmin (l + 1) (by rw [endsAtTimer_follow hclock]; exact hl)
    omega

theorem chainLength_below {n : Nat} {k : CarouselId} (h : chainLength cs n k) {m : Nat} (hm : 1 ≤ m) (hmn : m ≤ n) :
    ∃ g, chainLength cs m g := by
  induction n generalizing k with
  | zero => omega
  | succ n ih =>
    rcases Nat.lt_or_ge n m with hlt | hge
    · obtain rfl : m = n + 1 := by omega
      exact ⟨k, h⟩
    · obtain ⟨p, rfl⟩ : ∃ p, n = p + 1 := ⟨n - 1, by omega⟩
      obtain ⟨g, hg⟩ := chainLength_next h
      exact ih hg hge

/-- A chain that ends has no carousel twice, and so at most sixteen (R134). -/
theorem chainLength_le {n : Nat} {k : CarouselId} (h : chainLength cs n k) : n ≤ 16 := by
  have hbelow : ∀ m : Fin n, ∃ g, chainLength cs (m.val + 1) g := fun m =>
    chainLength_below h (Nat.succ_le_succ (Nat.zero_le _)) m.isLt
  choose f hf using hbelow
  have hinjective : Function.Injective f := fun a b hab => by
    have hlength := chainLength_unique (hf a) (hab ▸ hf b)
    exact Fin.ext (by omega)
  simpa using Fintype.card_le_of_injective f hinjective

theorem endsAtTimer_sixteen {n : Nat} {k : CarouselId} (h : endsAtTimer cs n k = true) : endsAtTimer cs 16 k = true := by
  obtain ⟨m, hm⟩ := exists_chainLength h
  exact endsAtTimer_mono (chainLength_le hm) hm.1

/-- A chain that does not reach carousel c ends as before when c gets a new record. -/
theorem endsAtTimer_set {c : CarouselId} (r : Carousel) {n : Nat} {k : CarouselId} (hreaches : chainReaches cs c n k = false)
    (h : endsAtTimer cs n k = true) : endsAtTimer (cs.set c r) n k = true := by
  induction n generalizing k with
  | zero => cases h
  | succ n ih =>
    simp only [chainReaches, Bool.or_eq_false_iff, decide_eq_false_iff_not] at hreaches
    obtain ⟨hne, hnext⟩ := hreaches
    have hkept : (cs.set c r)[k] = cs[k] := vector_get_set_ne cs r (Ne.symm hne)
    cases hclock : cs[k].clock with
    | timer => exact endsAtTimer_timer (by rw [hkept, hclock]) n
    | follow m =>
      rw [endsAtTimer_follow hclock] at h
      rw [endsAtTimer_follow (by rw [hkept, hclock])]
      simp only [hclock] at hnext
      exact ih hnext h

/-- A new record whose own chain ends leaves every chain ending. -/
theorem endsAtTimer_through {c : CarouselId} (r : Carousel) {n m : Nat} {k : CarouselId} (hc : endsAtTimer (cs.set c r) m c = true)
    (h : endsAtTimer cs n k = true) : endsAtTimer (cs.set c r) (n + m) k = true := by
  induction n generalizing k with
  | zero => cases h
  | succ n ih =>
    by_cases hk : c = k
    · subst hk
      exact endsAtTimer_mono (Nat.le_add_left _ _) hc
    · have hkept : (cs.set c r)[k] = cs[k] := vector_get_set_ne cs r hk
      have hfuel : n + 1 + m = n + m + 1 := by omega
      rw [hfuel]
      cases hclock : cs[k].clock with
      | timer => exact endsAtTimer_timer (by rw [hkept, hclock]) _
      | follow g =>
        rw [endsAtTimer_follow hclock] at h
        rw [endsAtTimer_follow (by rw [hkept, hclock])]
        exact ih h

end

/-! ### The law -/

section
variable {i : Instr} {s t : State}

/-- A record with the same clock that is as lawful as the one it replaces keeps the law. -/
theorem State.CarouselLaw.clocks (hs : s.CarouselLaw) (hclock : ∀ c : CarouselId, t.carousels[c].clock = s.carousels[c].clock)
    (hlaw : ∀ c : CarouselId, t.carousels[c].lawful = true) : t.CarouselLaw :=
  fun c => ⟨hlaw c, (endsAtTimer_congr hclock 16 c).trans (hs c).2⟩

theorem State.CarouselLaw.define (hs : s.CarouselLaw) {c : CarouselId} {r : Carousel} (hr : r.lawful = true)
    (hcycle : closesCycle s.carousels c r.clock = false) : (s.setCarousel c r).CarouselLaw := by
  have hself : (s.carousels.set c r)[c] = r := vector_get_set_self ..
  have hends : ∃ n, endsAtTimer (s.carousels.set c r) n c = true := by
    cases hclock : r.clock with
    | timer => exact ⟨1, endsAtTimer_timer (by rw [hself, hclock]) 0⟩
    | follow m =>
      rw [hclock] at hcycle
      refine ⟨17, ?_⟩
      rw [endsAtTimer_follow (by rw [hself, hclock])]
      exact endsAtTimer_set r hcycle (hs m).2
  obtain ⟨n, hn⟩ := hends
  refine fun k => ⟨?_, endsAtTimer_sixteen (endsAtTimer_through r hn (hs k).2)⟩
  rw [State.setCarousel_carousels, vector_get_set]
  split
  · exact hr
  · exact (hs k).1

theorem Change.keeps_carouselLaw (h : Change i s t) (hs : s.CarouselLaw) : t.CarouselLaw := by
  cases h
  case reset => exact State.reset_carouselLaw
  case define c mode skip clock entries hlength hdwell hcycle =>
    exact hs.define (Carousel.define_lawful mode skip clock hlength hdwell) hcycle
  case carousel c r hclock hr =>
    have hget : ∀ k : CarouselId, (s.setCarousel c r).carousels[k] = if c = k then r else s.carousels[k] := fun k => vector_get_set ..
    refine hs.clocks (fun k => ?_) fun k => ?_
    · rw [hget]
      split
      · rename_i hk
        exact hk ▸ hclock
      · rfl
    · rw [hget]
      split
      · exact hr (hs c).1
      · exact (hs k).1
  case applyRequests =>
    have hget : ∀ k : CarouselId, s.applyRequests.carousels[k] = s.carousels[k].applyRequest := fun k => mapTable_get ..
    refine hs.clocks (fun k => ?_) fun k => ?_
    · rw [hget]
      unfold Carousel.applyRequest
      split <;> rfl
    · rw [hget]
      exact Carousel.applyRequest_lawful (hs k).1
  case clearLayout =>
    have hget : ∀ k : CarouselId, (resetLayout s).after.carousels[k] = s.carousels[k].rewind := fun k => mapTable_get ..
    refine hs.clocks (fun k => ?_) fun k => ?_
    · rw [hget]
      rfl
    · rw [hget]
      exact Carousel.rewind_lawful (hs k).1
  case cascade c n hne =>
    have hplay := Carousel.playable_of_lawful (hs c).1 (hne (hs c).1)
    have hget : ∀ k : CarouselId, (s.carousels.set c { s.carousels[c] with remaining := n })[k] =
        if c = k then { s.carousels[c] with remaining := n } else s.carousels[k] := fun k => vector_get_set ..
    refine hs.clocks (fun k => ?_) fun k => ?_
    · have hclock := congrArg Carousel.clock
        (advanceChain_frame s.inputPresent chainFuel c (s.carousels.set c { s.carousels[c] with remaining := n }) k)
      refine hclock.trans ?_
      dsimp only
      rw [hget]
      split
      · rename_i hk
        rw [← hk]
      · rfl
    · refine advanceChain_lawful s.inputPresent chainFuel c _ (fun f hf => ?_) ?_ nofun k
      · rw [hget, if_neg (Ne.symm hf)]
        exact (hs f).1
      · rw [hget, if_pos rfl]
        exact hplay
  case recallOn caller es k =>
    unfold State.CarouselLaw
    rw [State.recallScreen_carousels]
    exact hs
  all_goals exact hs

end

/-- Settles O10: an advance leaves a lawful record, and a new clock is taken only where its chain does not come back. -/
theorem everyStepKeepsTheCarouselLaw : Obligations.EveryStepKeepsTheCarouselLaw := fun _ _ hs h =>
  step_keeps (P := State.CarouselLaw) (fun _ _ hlaw => hlaw) (fun _ _ _ hchange => hchange.keeps_carouselLaw) hs h

end Sys2Proof.Machine
end

section
/-! PROOFS. What reaches the picture (R46): the plan of a screen through its moves; a live copy through the moves of a tick, and through
the one command that the bytes of a row can complete. -/

namespace Sys2Proof.Machine

/-! ### The port: one command for the bytes of a row -/

/-- A port that does not receive a command takes none from the bytes that arrive (R168, R170). -/
theorem State.bytesIn_deaf {s : State} (hphase : s.port.phase ≠ .receiving) (bytes : List Byte) :
    ∃ p : Port, s.bytesIn bytes = { s with port := p } := by
  induction bytes generalizing s with
  | nil => exact ⟨s.port, rfl⟩
  | cons b rest ih =>
    have hbyte : ∃ p : Port, s.byteIn b = { s with port := p } ∧ p.phase ≠ .receiving := by
      unfold State.byteIn
      cases hp : s.port.phase with
      | noTransaction => exact ⟨s.port, rfl, hphase⟩
      | receiving => exact absurd hp hphase
      | sending =>
        refine ⟨_, rfl, ?_⟩
        unfold Port.sendByte
        split
        · nofun
        · nofun
        · exact hphase
      | filler => exact ⟨_, rfl, hphase⟩
    obtain ⟨p, hbyte, hp⟩ := hbyte
    obtain ⟨q, hq⟩ := ih (s := { s with port := p }) hp
    refine ⟨q, ?_⟩
    show (s.byteIn b).bytesIn rest = _
    rw [hbyte, hq]

/-- A command does not see the port. -/
theorem takeCommand_after_port (op : Opcode) (args : List Byte) (s : State) (p : Port) :
    (takeCommand op args { s with port := p }).after = { (takeCommand op args s).after with port := p } := by
  refine (congrArg Answer.after (takeCommand_reframe op args s p s.pending)).trans ?_
  show (takeCommand op args s).after.reframe p s.pending = _
  rw [← takeCommand_pending op args s]
  rfl

/-- The bytes of a row leave the records as they are, or as one command leaves them (R169, R170). -/
theorem State.bytesIn_command (s : State) (bytes : List Byte) :
    ∃ (u : State) (p : Port), s.bytesIn bytes = { u with port := p } ∧
      (u = s ∨ ∃ (op : Opcode) (args : List Byte), u = (takeCommand op args s).after) := by
  induction bytes generalizing s with
  | nil => exact ⟨s, s.port, rfl, .inl rfl⟩
  | cons b rest ih =>
    by_cases hphase : s.port.phase = .receiving
    · have hbyte : s.byteIn b = s.receiveByte b := by simp only [State.byteIn, hphase]
      show ∃ u p, (s.byteIn b).bytesIn rest = _ ∧ _
      rw [hbyte]
      unfold State.receiveByte
      split
      · obtain ⟨u, p, hu, hcase⟩ :=
          ih { s with port := { s.port with received := s.port.received ++ [b], dataOut := s.port.dataOut ++ [0x00#8] } }
        rcases hcase with rfl | ⟨op, args, rfl⟩
        · exact ⟨s, p, hu, .inl rfl⟩
        · refine ⟨(takeCommand op args s).after, p, hu.trans ?_, .inr ⟨op, args, rfl⟩⟩
          rw [takeCommand_after_port]
      · obtain ⟨p, hp⟩ := State.bytesIn_deaf (s := s.sendResponse .badOpcode []) nofun rest
        exact ⟨s, p, hp, .inl rfl⟩
      · rename_i op args _
        obtain ⟨p, hp⟩ := State.bytesIn_deaf
          (s := (takeCommand op args s).after.sendResponse (takeCommand op args s).code (takeCommand op args s).fields) nofun rest
        exact ⟨(takeCommand op args s).after, p, hp, .inr ⟨op, args, rfl⟩⟩
    · obtain ⟨p, hp⟩ := State.bytesIn_deaf hphase (b :: rest)
      exact ⟨s, p, hp, .inl rfl⟩

/-! ### Live copies -/

/-- Row i neither resets the part, nor brings bytes, nor begins a frame, nor ends a transition. -/
def Instr.sparesWindows (i : Instr) : Prop :=
  i.bytes = none ∧ i ≠ .pinReset ∧ (∀ h, i ≠ .transitionEnd h) ∧ ∀ k, i ≠ .frameStart k

section
variable {w : Window} {c : WindowFields}

theorem Window.screen_of_liveCopy (h : w.liveCopy = some c) : w.screen = some c.screen := by
  cases w with
  | free | staged => cases h
  | live | retiring =>
    cases h
    rfl

theorem Window.amend_liveCopy (w : Window) (f : WindowFields) : (w.amend f).liveCopy = w.liveCopy := by cases w <;> rfl

theorem Window.retire_liveCopy (w : Window) : w.retire.liveCopy = w.liveCopy := by cases w <;> rfl

theorem Window.discard_liveCopy (w : Window) : w.discard.liveCopy = w.liveCopy := by cases w <;> rfl

theorem Window.holdTick_liveCopy (w : Window) : w.holdTick.liveCopy = w.liveCopy := by cases w <;> rfl

theorem Window.toSlated_liveCopy (w : Window) : w.toSlated.liveCopy = w.liveCopy := by cases w <;> rfl

theorem Window.endTransition_liveCopy (h : w.liveCopy = some c) : w.endTransition.liveCopy = some c ∨ w.endTransition = .free := by
  cases w with
  | free | staged | live => exact .inl h
  | retiring => exact .inr rfl

end

section
variable {i : Instr} {s t : State}

/-- No move of a row that spares the windows touches a live copy. -/
theorem Change.keeps_liveCopy (h : Change i s t) (hi : Instr.sparesWindows i) {g : Handle} {c : WindowFields}
    (hc : s.windows[g].liveCopy = some c) : t.windows[g].liveCopy = some c := by
  obtain ⟨hbytes, hreset, hend, hframe⟩ := hi
  have hset : ∀ (f : Handle) (w : Window), (s.windows[f].liveCopy = some c → w.liveCopy = some c) →
      (s.windows.set f w)[g].liveCopy = some c := by
    intro f w hw
    rw [vector_get_set]
    split
    · rename_i hf
      exact hw (hf ▸ hc)
    · exact hc
  cases h
  case reset hi => exact absurd hi hreset
  case clearLayout hi => exact absurd hbytes hi
  case stop _ hi => exact absurd hbytes hi
  case endTransition f hi => exact absurd hi (hend f)
  case frame k hi _ => exact absurd hi (hframe k)
  case place f p hfree _ =>
    refine hset f _ fun hlive => ?_
    rw [hfree] at hlive
    cases hlive
  case amend f base p _ _ _ => exact hset f _ fun hlive => (Window.amend_liveCopy ..).trans hlive
  case retire f base _ _ => exact hset f _ fun hlive => (Window.retire_liveCopy _).trans hlive
  case endHold f => exact hset f _ fun hlive => (Window.toSlated_liveCopy _).trans hlive
  case discard k =>
    rw [State.discardStage_windows]
    split
    · rw [Window.discard_liveCopy, hc]
    · exact hc
  case holdTicks =>
    rcases s.holdTicks_window g with heq | heq
    · exact (congrArg Window.liveCopy heq).trans hc
    · exact (congrArg Window.liveCopy heq).trans ((Window.holdTick_liveCopy _).trans hc)
  case recallOn caller es k =>
    rcases State.recallScreen_window s caller es k g with heq | ⟨-, -, heq⟩ | ⟨hfree, -⟩
    · rw [heq, hc]
    · rw [heq, Window.retire_liveCopy, hc]
    · rw [hfree] at hc
      cases hc
  all_goals exact hc

theorem Moves.keeps_liveCopy (h : Moves i s t) (hi : Instr.sparesWindows i) {g : Handle} {c : WindowFields}
    (hc : s.windows[g].liveCopy = some c) : t.windows[g].liveCopy = some c :=
  h.keeps (P := fun u => u.windows[g].liveCopy = some c) (fun _ _ hchange => hchange.keeps_liveCopy hi) hc

/-- A command leaves a live copy as it is, or the window FREE (R19, R20, R23, R33, R84). -/
theorem takeCommand_liveCopy (op : Opcode) (args : List Byte) (s : State) {g : Handle} {c : WindowFields}
    (hc : s.windows[g].liveCopy = some c) :
    (takeCommand op args s).after.windows[g].liveCopy = some c ∨ (takeCommand op args s).after.windows[g] = .free := by
  by_cases hready : s.startup = .ready
  · rw [takeCommand, if_pos hready]
    by_cases hop : op ≠ .resetLayout ∧ op ≠ .stopScreen
    · exact .inl ((Moves.runCommand (i := .minute) op args s (.inr hop)).keeps_liveCopy ⟨rfl, nofun, nofun, nofun⟩ hc)
    · rw [not_and_or, not_not, not_not] at hop
      rcases hop with rfl | rfl
      · exact .inr (mapTable_get ..)
      · show (stopScreen args s).after.windows[g].liveCopy = some c ∨ (stopScreen args s).after.windows[g] = .free
        unfold stopScreen
        split
        · exact .inl hc
        · rename_i k _
          split
          · exact .inl hc
          · have hwindow : (s.stopScreen k).windows[g] =
                if s.windows[g].belongsTo k then s.windows[g].endTransition else s.windows[g] := by
              unfold State.stopScreen
              rw [State.raiseIf_windows]
              exact mapTable_get ..
            show (s.stopScreen k).windows[g].liveCopy = some c ∨ (s.stopScreen k).windows[g] = .free
            rw [hwindow]
            split
            · exact Window.endTransition_liveCopy hc
            · exact .inl hc
  · rw [takeCommand, if_neg hready]
    exact .inl hc

/-- A frame start touches the live copies of its own screen alone (R86). -/
theorem State.beginFrame_liveCopy (s : State) (k : ScreenId) {g : Handle} {c : WindowFields} (hc : s.windows[g].liveCopy = some c)
    (hk : k ≠ c.screen) : (s.beginFrame k).windows[g].liveCopy = some c := by
  have hother : s.windows[g].belongsTo k = false := by
    rw [Bool.eq_false_iff, ne_eq, Window.belongsTo_iff, Window.screen_of_liveCopy hc, Option.some.injEq]
    exact Ne.symm hk
  have hwindow : (s.beginFrame k).windows[g] = (s.frameWindows k)[g] := by
    simp only [State.beginFrame, State.raiseIf_windows, State.setScreen_windows]
  rw [hwindow, State.frameWindows_get, hother]
  exact hc

/-- Settles O12: plans by moves; live copies by the row, a command, a frame start and an end of a transition apart from the rest. -/
theorem onlyAFrameStartReachesThePicture : Obligations.OnlyAFrameStartReachesThePicture := by
  intro i s t h
  obtain ⟨u, hu, hmoves⟩ := exec_moves i s
  obtain rfl : u = t := by
    rw [hu] at h
    exact Host.Outcome.next.inj h
  refine ⟨fun k hplan => ?_, fun g c hc => ?_⟩
  · by_contra hcase
    rw [not_or] at hcase
    obtain ⟨hframe, hdrop⟩ := hcase
    have hkept : u.screens[k].plan = s.screens[k].plan ∨
        (u.screens[k].plan = none ∧ (i = .pinReset ∨ i.bytes ≠ none)) := by
      refine hmoves.keeps (P := fun u => u.screens[k].plan = s.screens[k].plan ∨
        (u.screens[k].plan = none ∧ (i = .pinReset ∨ i.bytes ≠ none))) (fun v w hchange hv => ?_) (.inl rfl)
      rcases hchange.plan_cases k with ⟨hsame, -⟩ | ⟨hnone, -, hi⟩ | ⟨hi, -⟩
      · rw [hsame]
        exact hv
      · exact .inr ⟨hnone, hi⟩
      · exact absurd hi hframe
    exact hkept.elim hplan hdrop
  · by_cases hspares : Instr.sparesWindows i
    · exact .inl (hmoves.keeps_liveCopy hspares hc)
    · rcases hbytes : i.bytes with _ | bytes
      · have hcases : i = .pinReset ∨ (∃ f, i = .transitionEnd f) ∨ ∃ k, i = .frameStart k := by
          by_contra hno
          simp only [not_or, not_exists] at hno
          exact hspares ⟨hbytes, hno⟩
        rcases hcases with rfl | ⟨f, rfl⟩ | ⟨k, rfl⟩
        · cases h
          exact .inr (.inl (State.reset_window g))
        · cases h
          split
          · have hwindow : (s.setWindow f s.windows[f].finishTransition).windows[g] =
                if f = g then s.windows[f].finishTransition else s.windows[g] := vector_get_set ..
            rw [hwindow]
            split
            · rename_i hf
              rw [Window.finishTransition_eq]
              exact (Window.endTransition_liveCopy (hf ▸ hc)).imp_right .inl
            · exact .inl hc
          · exact .inl hc
        · by_cases hk : k = c.screen
          · exact .inr (.inr (congrArg Instr.frameStart hk))
          · cases h
            split
            · exact .inl hc
            · exact .inl (s.beginFrame_liveCopy k hc hk)
      · rw [exec_bytes hbytes] at h
        cases h
        obtain ⟨v, p, hv, hcase⟩ := s.bytesIn_command bytes
        rw [hv]
        rcases hcase with rfl | ⟨op, args, rfl⟩
        · exact .inl hc
        · exact (takeCommand_liveCopy op args s hc).imp_right .inl

end

end Sys2Proof.Machine
end

section
/-! PROOFS. The control port (chapter 10): the bytes of a row and the row that they spell; transactions; responses; refusals. -/

namespace Sys2Proof.Machine

/-! ### Bytes and rows -/

/-- The length of a list command is known once its bytes have arrived, whatever follows (R169). -/
theorem listLength_append {fixed size most : Nat} {args : List Byte} (more : List Byte)
    (h : listLength fixed size most args = some args.length) : listLength fixed size most (args ++ more) = some args.length := by
  unfold listLength at h ⊢
  cases hcount : args[fixed - 1]? with
  | none =>
    rw [hcount] at h
    cases h
  | some count =>
    obtain ⟨hlt, -⟩ := List.getElem?_eq_some_iff.mp hcount
    rw [List.getElem?_append_left hlt, hcount]
    rw [hcount] at h
    exact h

theorem Opcode.argumentCount_append {op : Opcode} {args : List Byte} (more : List Byte)
    (h : op.argumentCount args = some args.length) : op.argumentCount (args ++ more) = some args.length := by
  cases op
  case setCarousel => exact listLength_append more h
  case storeScene => exact listLength_append more h
  all_goals exact h

theorem Opcode.instr_of_portCommand {i : Instr} {op : Opcode} {args : List Byte} (h : i.portCommand = some (op, args)) :
    op.instr args = i := by
  cases i <;> cases h <;> rfl

theorem Instr.bytes_of_portCommand {i : Instr} {op : Opcode} {args : List Byte} (h : i.portCommand = some (op, args)) :
    i.bytes = some (op.code :: args) := by
  simp only [Instr.bytes, h]

theorem Instr.wellFormed_of_portCommand {i : Instr} {op : Opcode} {args : List Byte} (h : i.portCommand = some (op, args)) :
    i.wellFormed = true ↔ op.argumentCount args = some args.length := by
  simp only [Instr.wellFormed, h, beq_iff_eq]

/-- The rows with bytes: the commands, and the opcode bytes that name none. -/
theorem Instr.bytes_cases {i : Instr} {bytes : List Byte} (h : i.bytes = some bytes) :
    (∃ op args, i.portCommand = some (op, args) ∧ bytes = op.code :: args) ∨ ∃ b, i = .badOpcode b ∧ bytes = [b] := by
  cases hcommand : i.portCommand with
  | some p =>
    obtain ⟨op, args⟩ := p
    rw [Instr.bytes_of_portCommand hcommand] at h
    exact .inl ⟨op, args, rfl, (Option.some.inj h).symm⟩
  | none =>
    simp only [Instr.bytes, hcommand] at h
    split at h
    · rename_i heq
      cases heq
    · rename_i b _
      exact .inr ⟨b, rfl, (Option.some.inj h).symm⟩
    · cases h

/-- Bytes after the last argument byte are disregarded (R168). -/
theorem decodeBytes_append {op : Opcode} {args : List Byte} (h : op.argumentCount args = some args.length) (more : List Byte) :
    decodeBytes (op.code :: args ++ more) = .command op args := by
  simp [decodeBytes, Opcode.ofByte?_code, Opcode.argumentCount_append more h]

/-- Settles O13: a command by the law of its length, an opcode byte that names none by itself. -/
theorem transactionBytesDecodeToTheirRow : Obligations.TransactionBytesDecodeToTheirRow := by
  intro i bytes hwf hbytes
  rcases Instr.bytes_cases hbytes with ⟨op, args, hcommand, rfl⟩ | ⟨b, rfl, rfl⟩
  · have hcount := (Instr.wellFormed_of_portCommand hcommand).mp hwf
    refine ⟨fun more => ?_, fun n hn => ?_⟩
    · simp only [decodeTransaction, decodeBytes_append hcount, Opcode.instr_of_portCommand hcommand]
    · cases n with
      | zero => rfl
      | succ n =>
        rw [List.take_succ_cons]
        simp only [decodeTransaction, decodeBytes_prefix hcount (Nat.lt_of_succ_lt_succ hn)]
  · have hnone : Opcode.ofByte? b = none := by simpa [Instr.wellFormed, Instr.portCommand] using hwf
    refine ⟨fun more => ?_, fun n hn => ?_⟩
    · simp only [decodeTransaction, List.cons_append, List.nil_append, decodeBytes, hnone]
    · obtain rfl : n = 0 := Nat.lt_one_iff.mp hn
      rfl

/-! ### Transactions -/

section
variable {s : State}

/-- Bytes that arrive outside a transaction are disregarded (R168). -/
theorem State.bytesIn_outside (h : s.port.phase = .noTransaction) (bytes : List Byte) : s.bytesIn bytes = s := by
  induction bytes with
  | nil => rfl
  | cons b rest ih =>
    have hbyte : s.byteIn b = s := by simp only [State.byteIn, h]
    show (s.byteIn b).bytesIn rest = s
    rw [hbyte, ih]

/-- A command that has arguments is sent with whatever arguments the row carries. -/
theorem Opcode.instr_bytes {op : Opcode} {args : List Byte} (h : op.argumentCount args = some args.length) (hpos : 0 < args.length)
    (given : List Byte) : (op.instr given).bytes = some (op.code :: given) := by
  cases op
  case identify | resetLayout | readKeys | readEvents =>
    obtain rfl := List.eq_nil_of_length_eq_zero (Option.some.inj h).symm
    exact absurd hpos (Nat.lt_irrefl 0)
  all_goals rfl

/-- Settles O14: at chip select by the rows, outside a transaction and in a command cut short by the bytes. -/
theorem transactionsBeginAndEnd : Obligations.TransactionsBeginAndEnd := by
  refine fun s => ⟨fun hphase => ?begins, rfl, fun hphase i bytes hbytes => ?outside, fun hs op args n hcount hn => ?cut⟩
  case begins => exact congrArg Host.Outcome.next (if_pos hphase)
  case outside => rw [exec_bytes hbytes, State.bytesIn_outside hphase]
  case cut =>
    have hpos : 0 < args.length := Nat.zero_lt_of_lt hn
    have hreceived := bytesIn_prefix hcount hs (n + 1) hn hpos
    rw [List.take_succ_cons] at hreceived
    exact ⟨_, (exec_bytes (Opcode.instr_bytes hcount hpos _) s).trans (congrArg Host.Outcome.next hreceived), rfl, rfl⟩

/-! ### Responses -/

/-- One byte shifted in while two or more response bytes are left takes the first of them out. -/
theorem State.byteIn_sending {r q : Byte} {l : List Byte} (hphase : s.port.phase = .sending) (hresponse : s.port.response = r :: q :: l)
    (b : Byte) : s.byteIn b = { s with port := { s.port with response := q :: l, dataOut := s.port.dataOut ++ [r] } } := by
  simp only [State.byteIn, hphase, Port.sendByte, hresponse]

/-- One byte shifted in while one response byte is left takes it out; filler follows. -/
theorem State.byteIn_lastResponseByte {r : Byte} (hphase : s.port.phase = .sending) (hresponse : s.port.response = [r]) (b : Byte) :
    s.byteIn b = { s with port := { s.port with phase := .filler, response := [], dataOut := s.port.dataOut ++ [r] } } := by
  simp only [State.byteIn, hphase, Port.sendByte, hresponse]

/-- Of padded bytes, no more padding is taken than is asked for. -/
theorem take_pad (l : List Byte) (n : Nat) :
    (l ++ List.replicate (n + 1) 0x00#8).take n = (l ++ List.replicate n 0x00#8).take n := by
  rw [List.replicate_succ', ← List.append_assoc, List.take_append_of_le_length]
  simp

/-- The bytes of a row take as many response bytes out, and 00h after the last (R168, R170). -/
theorem State.bytesIn_sending (hphase : s.port.phase = .sending) (hresponse : s.port.response ≠ []) (bytes : List Byte) :
    s.bytesIn bytes =
      { s with
        port :=
          { phase := if s.port.response.length ≤ bytes.length then .filler else .sending
            received := s.port.received
            response := s.port.response.drop bytes.length
            dataOut := s.port.dataOut ++ (s.port.response ++ List.replicate bytes.length 0x00#8).take bytes.length } } := by
  induction bytes generalizing s with
  | nil =>
    have hpos : ¬ s.port.response.length ≤ 0 := by simpa using hresponse
    simp only [State.bytesIn, List.foldl_nil, List.length_nil, if_neg hpos, List.drop_zero, List.replicate_zero, List.append_nil,
      List.take_zero, ← hphase]
  | cons b rest ih =>
    show (s.byteIn b).bytesIn rest = _
    rcases hlist : s.port.response with _ | ⟨r, _ | ⟨q, l⟩⟩
    · exact absurd hlist hresponse
    · rw [State.byteIn_lastResponseByte hphase hlist, State.bytesIn_filler rfl]
      simp [List.take_replicate]
    · rw [State.byteIn_sending hphase hlist,
        ih (s := { s with port := { s.port with response := q :: l, dataOut := s.port.dataOut ++ [r] } }) hphase (List.cons_ne_nil q l)]
      have hpad := take_pad (q :: l) rest.length
      simp only [List.length_cons, List.drop_succ_cons, List.cons_append, List.take_succ_cons, Nat.add_le_add_iff_right,
        List.append_assoc, List.nil_append] at hpad ⊢
      rw [hpad]

end

/-- Settles O15. -/
theorem responseIsShiftedOutByteByByte : Obligations.ResponseIsShiftedOutByteByByte := by
  intro i bytes s hbytes
  rw [exec_bytes hbytes]
  exact ⟨fun hphase hresponse => congrArg Host.Outcome.next (State.bytesIn_sending hphase hresponse bytes),
    fun hphase => congrArg Host.Outcome.next (State.bytesIn_filler hphase bytes)⟩

/-- Settles O16: NOT_READY comes before every test of a command (R187). -/
theorem commandsBeforeReadinessAreNotReady : Obligations.CommandsBeforeReadinessAreNotReady := by
  intro op args s hready hs hcount
  have hrefused : takeCommand op args s = refuse .notReady s := if_neg hready
  rw [exec_command hcount hs, hrefused]
  rfl

/-! ### Refusals -/

/-- Fields come with OK alone, and a refusal leaves the records (R186). -/
def Answer.honest (a : Answer) (s : State) : Prop := (a.code ≠ .ok → a.fields = []) ∧ (a.code ≠ .ok → a.code ≠ .pending → a.after = s)

theorem refuse_honest (code : ResultCode) (s : State) : (refuse code s).honest s := ⟨fun _ => rfl, fun _ _ => rfl⟩

theorem reply_honest (fields : List Byte) (s t : State) : (reply fields t).honest s :=
  ⟨fun h => absurd rfl h, fun h => absurd rfl h⟩

theorem pending_honest (s t : State) : Answer.honest ⟨.pending, [], t⟩ s := ⟨fun _ => rfl, fun _ h => absurd rfl h⟩

/-- Every branch of a command is a refusal, OK or PENDING. -/
theorem runCommand_honest (op : Opcode) (args : List Byte) (s : State) : (runCommand op args s).honest s := by
  cases op
  all_goals
    simp only [runCommand, identify, resetLayout, placeWindow, amendWindow, retireWindow, readWindow, listScreen, sealStage, discardStage,
      readStage, configureStages, configureScreen, startScreen, stopScreen, readScreen, probePoint, probeResult, configureInputs,
      readInput, setCarousel, startCarousel, stopCarousel, stepCarousel, State.startCarousel, State.stopCarousel, State.stepCarousel,
      readCarousel, storeScene, captureScene, clearScene, readScene, recallScene, bindKey, readKeys, readEvents, clearEvents,
      setEventControl]
    repeat' split
  all_goals first | exact refuse_honest .. | exact reply_honest .. | exact pending_honest ..

/-- Settles O18. -/
theorem refusedCommandsChangeNothing : Obligations.RefusedCommandsChangeNothing := by
  intro op args s hs hcount
  have hhonest : (takeCommand op args s).honest s := by
    unfold takeCommand
    split
    · exact runCommand_honest op args s
    · exact refuse_honest .notReady s
  exact ⟨_, _, _, exec_command hcount hs, hhonest⟩

end Sys2Proof.Machine
end

section
/-! PROOFS. RESET LAYOUT, READ EVENTS and SET EVENT CONTROL (chapter 10), the codes of a byte, and the window record (11.3, 11.4): what its
bytes are tested for and stored as, and that a stored copy is read back from the bytes it is sent as. -/

namespace Sys2Proof.Machine

/-! ### Codes -/

/-- Settles O21: each table is the old one with every record cleared. -/
theorem resetLayoutClearsTheLayout : Obligations.ResetLayoutClearsTheLayout := by
  intro s hs
  refine ⟨_, _, _, _, exec_answers (op := .resetLayout) (args := []) rfl hs rfl, fun h => mapTable_get .., fun k => mapTable_get ..,
    fun k => mapTable_get .., fun c => ?_⟩
  rw [List.head?_eq_getElem?]
  exact mapTable_get ..

section
variable {b : Byte}

theorem toNat_le_one_iff : b.toNat ≤ 1 ↔ b = 0x00#8 ∨ b = 0x01#8 := by
  constructor
  · intro h
    interval_cases hb : b.toNat
    · exact .inl (BitVec.eq_of_toNat_eq hb)
    · exact .inr (BitVec.eq_of_toNat_eq hb)
  · rintro (rfl | rfl) <;> decide

/-- A byte that names neither value of a code of 00h and 01h (R189). -/
theorem twoCodes_eq_none {α : Type} {x y : α} :
    (if b = 0x00#8 then some x else if b = 0x01#8 then some y else none) = none ↔ 1 < b.toNat := by
  rw [← Nat.not_le, toNat_le_one_iff]
  by_cases hc : b = 0x00#8
  · simp [hc]
  · by_cases hd : b = 0x01#8 <;> simp [hc, hd]

theorem yesNo_eq_none : yesNo b = none ↔ 1 < b.toNat := twoCodes_eq_none

theorem lineModeOf_eq_none : lineModeOf b = none ↔ 1 < b.toNat := twoCodes_eq_none

theorem clearModeOf_eq_none : clearModeOf b = none ↔ 1 < b.toNat := twoCodes_eq_none

theorem sensitivityOf_eq_none : sensitivityOf b = none ↔ 1 < b.toNat := twoCodes_eq_none

theorem lineModeOf_code (m : LineMode) : lineModeOf m.code = some m := by cases m <;> rfl

theorem clearModeOf_code (m : ClearMode) : clearModeOf m.code = some m := by cases m <;> rfl

theorem sensitivityOf_code (m : Sensitivity) : sensitivityOf m.code = some m := by cases m <;> rfl

end

/-! ### The event unit (R182 to R185) -/

/-- What READ EVENTS leaves of the flags: nothing, but for an INPUT flag whose clear is held (R182, R184). -/
theorem EventUnit.clear_own_flags (e : EventUnit) (held : Bool) :
    (e.clear e.flags held).flags = if held then e.flags &&& 0x02#8 else 0x00#8 := by
  have hinput : Flag.input.byte = 0x02#8 := rfl
  have hclear : ∀ x y : Byte, x &&& ~~~(x &&& ~~~y) = x &&& y := by
    intro x y
    ext n hn
    cases hx : x[n] <;> simp [hx]
  cases held with
  | false => simp [EventUnit.clear]
  | true => simp only [EventUnit.clear, if_true, hinput, hclear]

theorem setEventControl_badArgument {mask line clear sensitivity : Byte} {s : State}
    (h : 1 < line.toNat ∨ 1 < clear.toNat ∨ 1 < sensitivity.toNat) :
    setEventControl [mask, line, clear, sensitivity] s = refuse .badArgument s := by
  rw [← lineModeOf_eq_none, ← clearModeOf_eq_none, ← sensitivityOf_eq_none] at h
  show (match lineModeOf line, clearModeOf clear, sensitivityOf sensitivity with
    | some l, some c, some n => reply [] { s with events := s.events.configure mask l c n }
    | _, _, _ => refuse .badArgument s) = _
  split
  · rename_i hl hc hn
    rcases h with h | h | h
    · rw [hl] at h
      cases h
    · rw [hc] at h
      cases h
    · rw [hn] at h
      cases h
  · rfl

theorem setEventControl_ok (mask : Byte) (l : LineMode) (c : ClearMode) (n : Sensitivity) (s : State) :
    setEventControl [mask, l.code, c.code, n.code] s = reply [] { s with events := s.events.configure mask l c n } := by
  show (match lineModeOf l.code, clearModeOf c.code, sensitivityOf n.code with
    | some l, some c, some n => reply [] { s with events := s.events.configure mask l c n }
    | _, _, _ => refuse .badArgument s) = _
  rw [lineModeOf_code, clearModeOf_code, sensitivityOf_code]

/-- READ EVENTS answers what the event unit holds, and clears in READ-CLEARS alone (R182). -/
theorem readEvents_eq (s : State) :
    readEvents s =
      reply [s.events.flags, s.events.mask, s.events.lineMode.code, s.events.clearMode.code, s.events.sensitivity.code]
        (if s.events.clearMode = .readClears then { s with events := s.events.clear s.events.flags s.inputHeld } else s) := by
  cases hmode : s.events.clearMode <;> simp [readEvents, hmode]

/-- Settles O23: READ EVENTS by the clear mode, SET EVENT CONTROL by its tests. -/
theorem eventsAreReadAndControlled : Obligations.EventsAreReadAndControlled := by
  intro s hs
  refine ⟨?reads, fun mask line clear sensitivity => ⟨fun hbad => ?refused, fun l c n hl hc hn => ?replaced⟩⟩
  case reads =>
    by_cases hmode : s.events.clearMode = .readClears
    · refine ⟨(s.events.clear s.events.flags s.inputHeld).flags, exec_answers (op := .readEvents) (args := []) rfl hs ?_, fun hno => ?_,
        fun _ => ?_⟩
      · refine (readEvents_eq s).trans ?_
        rw [if_pos hmode]
        rfl
      · rw [hmode] at hno
        cases hno
      · rw [EventUnit.clear_own_flags, ← s.inputHeld_iff]
        refine ⟨fun hheld => ?_, fun hheld => ?_⟩
        · rw [if_neg hheld]
        · rw [if_pos hheld]
    · refine ⟨s.events.flags, exec_answers (op := .readEvents) (args := []) rfl hs ?_, fun _ => rfl, fun h => absurd h hmode⟩
      refine (readEvents_eq s).trans ?_
      rw [if_neg hmode]
      rfl
  case refused =>
    exact exec_answers (op := .setEventControl) (args := [mask, line, clear, sensitivity]) rfl hs (setEventControl_badArgument hbad)
  case replaced =>
    subst hl hc hn
    have hpulse : (if s.events.lineMode = l then s.events.pulseLeft else 0) = if l = s.events.lineMode then s.events.pulseLeft else 0 :=
      if_congr eq_comm rfl rfl
    refine exec_answers (op := .setEventControl) (args := [mask, l.code, c.code, n.code]) rfl hs
      ((setEventControl_ok mask l c n s).trans ?_)
    rw [← hpulse]
    rfl

/-! ### The window record (11.3) -/

section
variable {r : List Byte}

theorem arg_eq_iff {n : Nat} {b : Byte} : arg r n = b ↔ num r n = b.toNat := BitVec.toNat_inj.symm

theorem recordRect_eq_none :
    recordRect r = none ↔
      min (num2 r 6) 4095 < min (num2 r 2) 4095 ∨ min (num2 r 8) 4095 < min (num2 r 4) 4095 := by
  simp only [recordRect, ite_eq_right_iff, reduceCtorEq, imp_false, not_and_or, not_le, Fin.lt_def, clamp_val]

theorem recordRect_eq_some {q : Rect} (h : recordRect r = some q) :
    q.x0.val = min (num2 r 2) 4095 ∧ q.y0.val = min (num2 r 4) 4095 ∧
      q.x1.val = min (num2 r 6) 4095 ∧ q.y1.val = min (num2 r 8) 4095 := by
  simp only [recordRect, Option.ite_none_right_eq_some, Option.some.injEq] at h
  obtain ⟨-, rfl⟩ := h
  exact ⟨rfl, rfl, rfl, rfl⟩

/-- Bytes 10 and 11 by the number of the code (R7). -/
theorem recordSource_eq :
    recordSource r =
      if num r 10 = 0 then (ident 12 (arg r 11)).map .input
      else if num r 10 = 1 then (ident 16 (arg r 11)).map .carousel
      else if num r 10 = 2 then some .slate
      else none := by
  simp only [recordSource, arg_eq_iff]
  rfl

theorem recordSource_eq_none :
    recordSource r = none ↔ 2 < num r 10 ∨ (num r 10 = 0 ∧ 12 ≤ num r 11) ∨ (num r 10 = 1 ∧ 16 ≤ num r 11) := by
  rw [recordSource_eq]
  split
  · rw [Option.map_eq_none_iff, ident_eq_none]
    show 12 ≤ num r 11 ↔ _
    omega
  · split
    · rw [Option.map_eq_none_iff, ident_eq_none]
      show 16 ≤ num r 11 ↔ _
      omega
    · split
      · rename_i hcode
        simp [hcode]
      · simp only [true_iff]
        omega

/-- Bytes 28 to 31 by the number of the code (R10). -/
theorem recordLoss_eq :
    recordLoss r =
      if num r 28 = 0 then some (.hold (num2 r 30))
      else if num r 28 = 1 then some .slate
      else if num r 28 = 2 then (ident 12 (arg r 29)).map .substitute
      else none := by
  simp only [recordLoss, arg_eq_iff]
  rfl

theorem recordLoss_eq_none : recordLoss r = none ↔ 2 < num r 28 ∨ (num r 28 = 2 ∧ 12 ≤ num r 29) := by
  rw [recordLoss_eq]
  split
  · rename_i hcode
    simp [hcode]
  · split
    · rename_i hcode
      simp [hcode]
    · split
      · rw [Option.map_eq_none_iff, ident_eq_none]
        show 12 ≤ num r 29 ↔ _
        omega
      · simp only [true_iff]
        omega

/-- What bytes 10 and 11 name (R7). -/
theorem recordSource_names {source : Source} (h : recordSource r = some source) :
    (∀ i : InputId, num r 10 = 0 → num r 11 = i.val → source = .input i) ∧
      (∀ c : CarouselId, num r 10 = 1 → num r 11 = c.val → source = .carousel c) ∧ (num r 10 = 2 → source = .slate) := by
  rw [recordSource_eq] at h
  refine ⟨fun i hcode hi => ?_, fun c hcode hc => ?_, fun hcode => ?_⟩
  · rw [if_pos hcode, ident_eq_some.mpr hi] at h
    exact (Option.some.inj h).symm
  · rw [if_neg (by omega), if_pos hcode, ident_eq_some.mpr hc] at h
    exact (Option.some.inj h).symm
  · rw [if_neg (by omega), if_neg (by omega), if_pos hcode] at h
    exact (Option.some.inj h).symm

/-- What bytes 28 to 31 name (R10). -/
theorem recordLoss_names {loss : LossPolicy} (h : recordLoss r = some loss) :
    (num r 28 = 0 → loss = .hold (num2 r 30)) ∧ (num r 28 = 1 → loss = .slate) ∧
      ∀ i : InputId, num r 28 = 2 → num r 29 = i.val → loss = .substitute i := by
  rw [recordLoss_eq] at h
  refine ⟨fun hcode => ?_, fun hcode => ?_, fun i hcode hi => ?_⟩
  · rw [if_pos hcode] at h
    exact (Option.some.inj h).symm
  · rw [if_neg (by omega), if_pos hcode] at h
    exact (Option.some.inj h).symm
  · rw [if_neg (by omega), if_neg (by omega), if_pos hcode, ident_eq_some.mpr hi] at h
    exact (Option.some.inj h).symm

end

/-! ### The groups of a record (R14, R191) -/

/-- A group that is selected and names nothing. -/
theorem ite_some_eq_none {α : Type} {b : Bool} {x : Option α} {y : α} :
    (if b = true then x else some y) = none ↔ b = true ∧ x = none := by
  cases b <;> simp

/-- What a group stores: the base's field where it is not selected, and the record's where it is. -/
theorem ite_some_eq_some {α : Type} {b : Bool} {x : Option α} {y z : α} (h : (if b = true then x else some y) = some z) :
    (b = false → z = y) ∧ (b = true → x = some z) := by
  cases b with
  | false => exact ⟨fun _ => (Option.some.inj h).symm, nofun⟩
  | true => exact ⟨nofun, fun _ => h⟩

section
variable {mask : BitVec 16} {r : List Byte} {base : WindowFields}

theorem editFields_badGeometry (h : (if selects mask .rectangle then recordRect r else some base.rect) = none) :
    editFields mask r base = .error .badGeometry := by
  simp only [editFields, h]

theorem editFields_badArgument {rect : Rect} (hrect : (if selects mask .rectangle then recordRect r else some base.rect) = some rect)
    (h : (if selects mask .source then recordSource r else some base.source) = none ∨
      (if selects mask .loss then recordLoss r else some base.loss) = none) : editFields mask r base = .error .badArgument := by
  simp only [editFields, hrect]
  cases hsource : (if selects mask .source then recordSource r else some base.source) with
  | none => rfl
  | some source =>
    have hloss := h.resolve_left (by rw [hsource]; exact Option.some_ne_none source)
    simp only [hloss]

/-- The copy that a record that passes its tests leaves (R14, R19). -/
def storedFields (mask : BitVec 16) (r : List Byte) (base : WindowFields) (rect : Rect) (source : Source) (loss : LossPolicy) :
    WindowFields where
  screen := base.screen
  layer := if selects mask .layer then clamp 15 (num r 1) else base.layer
  rect := rect
  source := source
  crop := if selects mask .crop then recordCrop r else base.crop
  opacity := if selects mask .opacity then clamp 64 (num r 20) else base.opacity
  borderWidth := if selects mask .border then clamp 15 (num r 21) else base.borderWidth
  borderColour := if selects mask .border then colourAt r 22 else base.borderColour
  slateColour := if selects mask .slateColour then colourAt r 25 else base.slateColour
  loss := loss
  fade := if selects mask .fade then clamp 63 (num r 32) else base.fade
  pinned := if selects mask .pin then (arg r 33).getLsbD 0 else base.pinned

theorem editFields_ok {rect : Rect} {source : Source} {loss : LossPolicy}
    (hrect : (if selects mask .rectangle then recordRect r else some base.rect) = some rect)
    (hsource : (if selects mask .source then recordSource r else some base.source) = some source)
    (hloss : (if selects mask .loss then recordLoss r else some base.loss) = some loss) :
    editFields mask r base = .ok (storedFields mask r base rect source loss) := by
  simp only [editFields, hrect, hsource, hloss, storedFields]

/-- A field that a group selects or leaves. -/
theorem ite_group {α β : Type} (g : α → β) {b : Bool} {x y : α} :
    (b = false → g (if b = true then x else y) = g y) ∧ (b = true → g (if b = true then x else y) = g x) := by
  cases b with
  | false => exact ⟨fun _ => rfl, nofun⟩
  | true => exact ⟨nofun, fun _ => rfl⟩

end

/-- Settles O25: the three tests in their order, then group by group. -/
theorem recordsAreTestedAndClampedByGroup : Obligations.RecordsAreTestedAndClampedByGroup := by
  intro mask r base badRectangle badSource badLoss
  have hrectangle : (if selects mask .rectangle then recordRect r else some base.rect) = none ↔ badRectangle := by
    rw [ite_some_eq_none, recordRect_eq_none]
    rfl
  have hsource : (if selects mask .source then recordSource r else some base.source) = none ↔ badSource := by
    rw [ite_some_eq_none, recordSource_eq_none]
    rfl
  have hloss : (if selects mask .loss then recordLoss r else some base.loss) = none ↔ badLoss := by
    rw [ite_some_eq_none, recordLoss_eq_none]
    rfl
  refine ⟨fun hbad => editFields_badGeometry (hrectangle.mpr hbad), fun hgood hbad => ?argument, fun hgood hgood' hgood'' => ?stored⟩
  case argument =>
    obtain ⟨rect, hrect⟩ := Option.ne_none_iff_exists'.mp (mt hrectangle.mp hgood)
    exact editFields_badArgument hrect (hbad.imp hsource.mpr hloss.mpr)
  case stored =>
    obtain ⟨rect, hrect⟩ := Option.ne_none_iff_exists'.mp (mt hrectangle.mp hgood)
    obtain ⟨source, hsrc⟩ := Option.ne_none_iff_exists'.mp (mt hsource.mp hgood')
    obtain ⟨loss, hls⟩ := Option.ne_none_iff_exists'.mp (mt hloss.mp hgood'')
    obtain ⟨hrect0, hrect1⟩ := ite_some_eq_some hrect
    obtain ⟨hsrc0, hsrc1⟩ := ite_some_eq_some hsrc
    obtain ⟨hls0, hls1⟩ := ite_some_eq_some hls
    refine ⟨_, editFields_ok hrect hsrc hls, rfl, (ite_group id).1, fun h => ((ite_group Fin.val).2 h).trans (clamp_val ..), hrect0,
      fun h => recordRect_eq_some (hrect1 h), hsrc0, fun h => recordSource_names (hsrc1 h), (ite_group id).1, fun h => ?_,
      (ite_group id).1, fun h => ((ite_group Fin.val).2 h).trans (clamp_val ..), fun h => ⟨(ite_group id).1 h, (ite_group id).1 h⟩,
      fun h => ⟨((ite_group Fin.val).2 h).trans (clamp_val ..), (ite_group id).2 h⟩, (ite_group id).1, (ite_group id).2,
      hls0, fun h => recordLoss_names (hls1 h), (ite_group id).1, fun h => ((ite_group Fin.val).2 h).trans (clamp_val ..),
      (ite_group id).1, (ite_group id).2⟩
    have hcrop : (if selects mask .crop then recordCrop r else base.crop) = recordCrop r := (ite_group id).2 h
    dsimp only [storedFields]
    rw [hcrop]
    exact ⟨clamp_val .., clamp_val .., clamp_val .., clamp_val ..⟩

end Sys2Proof.Machine
end

section
/-! PROOFS. The 34 bytes of a stored copy (R190): each field is read back from the bytes it is sent as. -/

namespace Sys2Proof.Machine

/-! ### Numbers on the wire -/

theorem byte_pair {n : Nat} (h : n < 65536) : (byte (n / 256)).toNat * 256 + (byte n).toNat = n := by
  simp only [byte_toNat]
  omega

theorem clamp_byte {most : Nat} (h : most < 256) (x : Fin (most + 1)) : clamp most (byte x).toNat = x := by
  have hx := x.isLt
  refine Fin.ext ?_
  rw [clamp_val, byte_toNat]
  omega

theorem clamp_bytes2 (x : Fin 4096) : clamp 4095 ((byte (x / 256)).toNat * 256 + (byte x).toNat) = x := by
  have hx := x.isLt
  refine Fin.ext ?_
  rw [clamp_val, byte_pair (by omega)]
  omega

theorem ident_byte {n : Nat} (h : n ≤ 256) (i : Fin n) : ident n (byte i) = some i :=
  ident_eq_some.mpr ((byte_toNat i).trans (Nat.mod_eq_of_lt (Nat.lt_of_lt_of_le i.isLt h)))

theorem flagByte_getLsbD (b : Bool) : (flagByte b).getLsbD 0 = b := by cases b <;> rfl

/-! ### The parts of a record -/

theorem Source.bytes_read (x : Source) :
    ∃ a b : Byte, x.bytes = [a, b] ∧ ∀ r : List Byte, arg r 10 = a → arg r 11 = b → recordSource r = some x := by
  cases x with
  | input i =>
    refine ⟨_, _, rfl, fun r hcode hnumber => ?_⟩
    simp only [recordSource, hcode, hnumber, if_true, ident_byte (by decide : 12 ≤ 256), Option.map_some]
  | carousel c =>
    refine ⟨_, _, rfl, fun r hcode hnumber => ?_⟩
    simp [recordSource, hcode, hnumber, ident_byte (by decide : 16 ≤ 256)]
  | slate =>
    refine ⟨_, _, rfl, fun r hcode _ => ?_⟩
    simp [recordSource, hcode]

theorem LossPolicy.bytes_read (x : LossPolicy) (h : ∀ limit, x = .hold limit → limit ≤ 65535) :
    ∃ a b c d : Byte, x.bytes = [a, b, c, d] ∧
      ∀ r : List Byte, arg r 28 = a → arg r 29 = b → arg r 30 = c → arg r 31 = d → recordLoss r = some x := by
  cases x with
  | hold limit =>
    refine ⟨_, _, _, _, rfl, fun r hcode _ hhigh hlow => ?_⟩
    have hlimit := byte_pair (Nat.lt_succ_of_le (h limit rfl))
    rw [← hhigh, ← hlow] at hlimit
    simp only [recordLoss, hcode, if_true]
    exact congrArg (some <| LossPolicy.hold ·) hlimit
  | slate =>
    refine ⟨_, _, _, _, rfl, fun r hcode _ _ _ => ?_⟩
    simp [recordLoss, hcode]
  | substitute i =>
    refine ⟨_, _, _, _, rfl, fun r hcode hnumber _ _ => ?_⟩
    simp [recordLoss, hcode, hnumber, ident_byte (by decide : 12 ≤ 256)]

theorem recordRect_of_corners {r : List Byte} {q : Rect} (hx0 : clamp 4095 (num2 r 2) = q.x0) (hy0 : clamp 4095 (num2 r 4) = q.y0)
    (hx1 : clamp 4095 (num2 r 6) = q.x1) (hy1 : clamp 4095 (num2 r 8) = q.y1) (hx : q.x0 ≤ q.x1) (hy : q.y0 ≤ q.y1) :
    recordRect r = some q := by
  simp only [recordRect, hx0, hy0, hx1, hy1, hx, hy, and_self, if_true]

theorem selects_everyGroup (g : FieldGroup) : selects everyGroup g = true := by cases g <;> rfl

/-- A whole record that passes its tests is stored whole (R14). -/
theorem recordFields_ok {k : ScreenId} {r : List Byte} {rect : Rect} {source : Source} {loss : LossPolicy}
    (hrect : recordRect r = some rect) (hsource : recordSource r = some source) (hloss : recordLoss r = some loss) :
    recordFields k r = .ok
      { screen := k
        layer := clamp 15 (num r 1)
        rect := rect
        source := source
        crop := recordCrop r
        opacity := clamp 64 (num r 20)
        borderWidth := clamp 15 (num r 21)
        borderColour := colourAt r 22
        slateColour := colourAt r 25
        loss := loss
        fade := clamp 63 (num r 32)
        pinned := (arg r 33).getLsbD 0 } := by
  unfold recordFields
  rw [editFields_ok (rect := rect) (source := source) (loss := loss)]
  · simp only [storedFields, selects_everyGroup, if_true, blankFields]
  all_goals simpa only [selects_everyGroup, if_true]

/-- The 34 bytes of a copy, one by one (11.3). -/
theorem WindowFields.bytes_list {f : WindowFields} {s0 s1 l0 l1 l2 l3 : Byte} (hsource : f.source.bytes = [s0, s1])
    (hloss : f.loss.bytes = [l0, l1, l2, l3]) :
    f.bytes =
      [byte f.screen, byte f.layer,
        byte (f.rect.x0 / 256), byte f.rect.x0, byte (f.rect.y0 / 256), byte f.rect.y0,
        byte (f.rect.x1 / 256), byte f.rect.x1, byte (f.rect.y1 / 256), byte f.rect.y1, s0, s1,
        byte (f.crop.cx / 256), byte f.crop.cx, byte (f.crop.cy / 256), byte f.crop.cy,
        byte (f.crop.cw / 256), byte f.crop.cw, byte (f.crop.ch / 256), byte f.crop.ch,
        byte f.opacity, byte f.borderWidth, f.borderColour.r, f.borderColour.g, f.borderColour.b,
        f.slateColour.r, f.slateColour.g, f.slateColour.b, l0, l1, l2, l3, byte f.fade, flagByte f.pinned] := by
  rw [WindowFields.bytes, hsource, hloss]
  rfl

/-- Settles O26: with the two bytes of the source and the four of the loss policy, the bytes of a copy are a list of 34. -/
theorem sentRecordsAreReadBackWhole : Obligations.SentRecordsAreReadBackWhole := by
  intro f hx hy hlimit
  obtain ⟨s0, s1, hsource, hreadSource⟩ := f.source.bytes_read
  obtain ⟨l0, l1, l2, l3, hloss, hreadLoss⟩ := f.loss.bytes_read hlimit
  rw [WindowFields.bytes_list hsource hloss]
  refine ⟨rfl, ?_, ?_⟩
  · have hlt := f.screen.isLt
    refine (byte_toNat f.screen).trans ?_
    omega
  · rw [recordFields_ok (rect := f.rect) (source := f.source) (loss := f.loss)]
    · refine congrArg Except.ok ?_
      refine WindowFields.mk.injEq .. ▸ ⟨rfl, clamp_byte (by decide) f.layer, rfl, rfl, ?_, clamp_byte (by decide) f.opacity,
        clamp_byte (by decide) f.borderWidth, rfl, rfl, rfl, clamp_byte (by decide) f.fade, flagByte_getLsbD f.pinned⟩
      exact Crop.mk.injEq .. ▸ ⟨clamp_bytes2 f.crop.cx, clamp_bytes2 f.crop.cy, clamp_bytes2 f.crop.cw, clamp_bytes2 f.crop.ch⟩
    · exact recordRect_of_corners (clamp_bytes2 f.rect.x0) (clamp_bytes2 f.rect.y0) (clamp_bytes2 f.rect.x1) (clamp_bytes2 f.rect.y1) hx hy
    · exact hreadSource _ rfl rfl
    · exact hreadLoss _ rfl rfl rfl rfl

end Sys2Proof.Machine
end

section
/-! PROOFS. The window table's commands (chapter 1): PLACE, AMEND, RETIRE, READ WINDOW and LIST SCREEN, each by the branch it takes. -/

namespace Sys2Proof.Machine

section
variable {args : List Byte} {s : State}

/-! ### What the tests of an edit find -/

theorem Stage.refusal_of_isSealed {g : Stage} (h : g.isSealed) (p : Party) : g.refusal p = some .stageSealed := by
  obtain ⟨owner, n, rfl⟩ := h
  rfl

theorem Stage.refusal_of_openToLink {g : Stage} (h : g.openToLink) : g.refusal .link = none := Stage.refusal_eq_none.mpr h

theorem Window.amendBase_retiring {w : Window} (h : (∃ c v o, w = .retiring c v o) ∨ ∃ c v x, w = .live c .retire v x) :
    w.amendBase = .error .retiring := by
  rcases h with ⟨c, v, o, rfl⟩ | ⟨c, v, x, rfl⟩ <;> rfl

/-- The copy that an edit starts from: the pending copy, or the live copy where there is none (R19). -/
theorem Window.amendBase_of_copy {w : Window} {base : WindowFields}
    (h : w = .staged base ∨ (∃ c v x, w = .live c (.amended base) v x) ∨ ∃ v x, w = .live base .none v x) :
    w.amendBase = .ok base := by
  rcases h with rfl | ⟨c, v, x, rfl⟩ | ⟨v, x, rfl⟩ <;> rfl

/-- Two bytes as one mask (R191). -/
theorem ofNat_num2 (n : Nat) : BitVec.ofNat 16 (num2 args n) = arg args n ++ arg args (n + 1) := by
  have hlow : (arg args (n + 1)).toNat < 2 ^ 8 := (arg args (n + 1)).isLt
  have hhigh : (arg args n).toNat < 2 ^ 8 := (arg args n).isLt
  refine BitVec.eq_of_toNat_eq ?_
  rw [BitVec.toNat_append, ← Nat.shiftLeft_add_eq_or_of_lt hlow, BitVec.toNat_ofNat, Nat.shiftLeft_eq]
  simp only [num2, num]
  omega

/-! ### PLACE WINDOW -/

theorem Window.isFree_eq_false {w : Window} : w.isFree = false ↔ w ≠ .free := by
  rw [Bool.eq_false_iff, ne_eq, Window.isFree_iff]

theorem placeWindow_badArgument (h : 8 ≤ num args 0) : placeWindow args s = refuse .badArgument s := by
  simp only [placeWindow, ident_eq_none.mpr h]

theorem placeWindow_refused {k : ScreenId} {code : ResultCode} (hk : num args 0 = k.val) (h : s.stages[k].refusal .link = some code) :
    placeWindow args s = refuse code s := by
  simp only [placeWindow, ident_eq_some.mpr hk, h]

/-- PLACE WINDOW past the test of the stage. -/
theorem placeWindow_open {k : ScreenId} (hk : num args 0 = k.val) (h : s.stages[k].openToLink) :
    placeWindow args s =
      match s.lowestFree with
      | none => refuse .noHandles s
      | some h =>
        match recordFields k args with
        | .error code => refuse code s
        | .ok f => reply [byte h] ((s.setWindow h (.staged f)).edited .link k) := by
  simp only [placeWindow, ident_eq_some.mpr hk, Stage.refusal_of_openToLink h] <;> rfl

/-- Settles O27: test by test. -/
theorem placeWindowTakesTheLowestFreeHandle : Obligations.PlaceWindowTakesTheLowestFreeHandle := by
  intro args s hs hlength
  have hrow : ∀ {code fields t}, placeWindow args s = ⟨code, fields, t⟩ →
      exec (.placeWindow args) s = .next (t.answers 34 code fields) := fun ha =>
    hlength ▸ exec_answers (op := .placeWindow) (congrArg some hlength.symm) hs ha
  refine ⟨fun hbad => hrow (placeWindow_badArgument hbad), fun k hk => ⟨fun hstage => ?sealed, fun n hstage => ?held, fun hstage => ?opened⟩⟩
  case sealed => exact hrow (placeWindow_refused hk (Stage.refusal_of_isSealed hstage .link))
  case held => exact hrow (placeWindow_refused hk (congrArg (Stage.refusal · .link) hstage))
  case opened =>
    have hopen := placeWindow_open hk hstage
    refine ⟨fun hfull => hrow ?_, fun h hfree hlow => ⟨fun code hcode => hrow ?_, fun f hf => hrow ?_⟩⟩
    · have hnone : s.lowestFree = none := State.lowestFree_eq_none.mpr fun h => Window.isFree_eq_false.mpr (hfull h)
      rw [hopen, hnone]
      rfl
    all_goals
      have hlowest : s.lowestFree = some h :=
        State.lowestFree_eq_some.mpr ⟨Window.isFree_iff.mpr hfree, fun g hg => Window.isFree_eq_false.mpr (hlow g hg)⟩
      rw [hopen, hlowest]
    · simp only [hcode]
      rfl
    · simp only [hf]
      rfl

/-! ### AMEND WINDOW and RETIRE WINDOW -/

theorem amendWindow_badArgument (h : 64 ≤ num args 0) : amendWindow args s = refuse .badArgument s := by
  simp only [amendWindow, ident_eq_none.mpr h]

theorem retireWindow_badArgument (h : 64 ≤ num args 0) : retireWindow args s = refuse .badArgument s := by
  simp only [retireWindow, ident_eq_none.mpr h]

section
variable {h : Handle} {code : ResultCode} {base : WindowFields} (hh : num args 0 = h.val)
include hh

theorem amendWindow_noBase (hbase : s.windows[h].amendBase = .error code) : amendWindow args s = refuse code s := by
  simp only [amendWindow, ident_eq_some.mpr hh, hbase]

theorem retireWindow_noBase (hbase : s.windows[h].amendBase = .error code) : retireWindow args s = refuse code s := by
  simp only [retireWindow, ident_eq_some.mpr hh, hbase]

theorem amendWindow_refused (hbase : s.windows[h].amendBase = .ok base) (hstage : s.stages[base.screen].refusal .link = some code) :
    amendWindow args s = refuse code s := by
  simp only [amendWindow, ident_eq_some.mpr hh, hbase, hstage]

theorem retireWindow_refused (hbase : s.windows[h].amendBase = .ok base) (hstage : s.stages[base.screen].refusal .link = some code) :
    retireWindow args s = refuse code s := by
  simp only [retireWindow, ident_eq_some.mpr hh, hbase, hstage]

theorem amendWindow_badFields (hbase : s.windows[h].amendBase = .ok base) (hstage : s.stages[base.screen].openToLink)
    (hfields : editFields (arg args 1 ++ arg args 2) (args.drop 3) base = .error code) : amendWindow args s = refuse code s := by
  rw [← ofNat_num2] at hfields
  simp only [amendWindow, ident_eq_some.mpr hh, hbase, Stage.refusal_of_openToLink hstage, hfields]

theorem amendWindow_ok {f : WindowFields} (hbase : s.windows[h].amendBase = .ok base) (hstage : s.stages[base.screen].openToLink)
    (hfields : editFields (arg args 1 ++ arg args 2) (args.drop 3) base = .ok f) :
    amendWindow args s = reply [] ((s.setWindow h (s.windows[h].amend f)).edited .link base.screen) := by
  rw [← ofNat_num2] at hfields
  simp only [amendWindow, ident_eq_some.mpr hh, hbase, Stage.refusal_of_openToLink hstage, hfields]

theorem retireWindow_ok (hbase : s.windows[h].amendBase = .ok base) (hstage : s.stages[base.screen].openToLink) :
    retireWindow args s = reply [] ((s.setWindow h s.windows[h].retire).edited .link base.screen) := by
  simp only [retireWindow, ident_eq_some.mpr hh, hbase, Stage.refusal_of_openToLink hstage]

end

/-- Settles O28: test by test. -/
theorem amendWindowEditsThePendingCopy : Obligations.AmendWindowEditsThePendingCopy := by
  intro args s hs hlength
  have hrow : ∀ {code fields t}, amendWindow args s = ⟨code, fields, t⟩ →
      exec (.amendWindow args) s = .next (t.answers 37 code fields) := fun ha =>
    hlength ▸ exec_answers (op := .amendWindow) (congrArg some hlength.symm) hs ha
  refine ⟨fun hbad => hrow (amendWindow_badArgument hbad), fun h hh => ⟨fun hfree => ?free, fun hretiring => ?retiring,
    fun base hbase => ?based⟩⟩
  case free => exact hrow (amendWindow_noBase hh (congrArg Window.amendBase hfree))
  case retiring => exact hrow (amendWindow_noBase hh (Window.amendBase_retiring hretiring))
  case based =>
    have hcopy := Window.amendBase_of_copy hbase
    refine ⟨fun hstage => ?_, fun n hstage => ?_, fun hstage => ⟨fun code hcode => ?_, fun f hf => ?_⟩⟩
    · exact hrow (amendWindow_refused hh hcopy (Stage.refusal_of_isSealed hstage .link))
    · exact hrow (amendWindow_refused hh hcopy (congrArg (Stage.refusal · .link) hstage))
    · exact hrow (amendWindow_badFields hh hcopy hstage hcode)
    · exact ⟨s.windows[h].amend f, hrow (amendWindow_ok hh hcopy hstage hf), fun hwindow => congrArg (Window.amend · f) hwindow,
        fun c p v x hwindow => congrArg (Window.amend · f) hwindow⟩

/-- Settles O29: test by test. -/
theorem retireWindowFreesOrMarks : Obligations.RetireWindowFreesOrMarks := by
  intro b s hs
  have hrow : ∀ {code fields t}, retireWindow [b] s = ⟨code, fields, t⟩ →
      exec (.retireWindow [b]) s = .next (t.answers 1 code fields) := fun ha =>
    exec_answers (op := .retireWindow) (args := [b]) rfl hs ha
  refine ⟨fun hbad => hrow (retireWindow_badArgument hbad), fun h hb => ?known⟩
  have hh : num [b] 0 = h.val := hb
  refine ⟨fun hfree => ?free, fun hretiring => ?retiring, fun base hbase => ?based⟩
  case free => exact hrow (retireWindow_noBase hh (congrArg Window.amendBase hfree))
  case retiring => exact hrow (retireWindow_noBase hh (Window.amendBase_retiring hretiring))
  case based =>
    have hcopy := Window.amendBase_of_copy hbase
    refine ⟨fun hstage => ?_, fun n hstage => ?_, fun hstage => ?_⟩
    · exact hrow (retireWindow_refused hh hcopy (Stage.refusal_of_isSealed hstage .link))
    · exact hrow (retireWindow_refused hh hcopy (congrArg (Stage.refusal · .link) hstage))
    · exact ⟨s.windows[h].retire, hrow (retireWindow_ok hh hcopy hstage), fun hwindow => congrArg Window.retire hwindow,
        fun c p v x hwindow => congrArg Window.retire hwindow⟩

/-! ### READ WINDOW -/

theorem WindowFields.bytes_length (f : WindowFields) : f.bytes.length = 34 := by
  have hsource : f.source.bytes.length = 2 := by cases f.source <;> rfl
  have hloss : f.loss.bytes.length = 4 := by cases f.loss <;> rfl
  simp [WindowFields.bytes, bytes2, Colour.bytes, hsource, hloss]

theorem copyBytes_length (copy : Option WindowFields) : (copyBytes copy).length = 34 := by
  cases copy with
  | none => rfl
  | some f => exact f.bytes_length

theorem Window.response_length (w : Window) (copy : Option WindowFields) : (w.response copy).length = 41 := by
  have htransition : w.transitionBytes.length = 3 := by
    unfold Window.transitionBytes
    split <;> rfl
  simp [Window.response, copyBytes_length, htransition]

theorem readWindow_badArgument {b view : Byte} (h : 64 ≤ b.toNat ∨ 1 < view.toNat) :
    readWindow [b, view] s = refuse .badArgument s := by
  show (match ident 64 b with
    | none => refuse .badArgument s
    | some h =>
      if view = 0x00#8 then reply (s.windows[h].response s.windows[h].liveCopy) s
      else if view = 0x01#8 then reply (s.windows[h].response s.windows[h].pendingCopy) s
      else refuse .badArgument s) = _
  rcases h with h | h
  · rw [ident_eq_none.mpr h]
  · have hview := h
    rw [← Nat.not_le, toNat_le_one_iff, not_or] at hview
    split
    · rfl
    · rw [if_neg hview.1, if_neg hview.2]

/-- The copy that a view of READ WINDOW asks for (R21). -/
def Window.viewed (w : Window) (view : Byte) : Option WindowFields := if view = 0x00#8 then w.liveCopy else w.pendingCopy

theorem readWindow_ok {b view : Byte} {h : Handle} (hh : b.toNat = h.val) (hview : view.toNat ≤ 1) :
    readWindow [b, view] s = reply (s.windows[h].response (s.windows[h].viewed view)) s := by
  have hident : ident 64 (arg [b, view] 0) = some h := ident_eq_some.mpr hh
  unfold readWindow
  rw [hident]
  rcases toNat_le_one_iff.mp hview with rfl | rfl
  · rfl
  · rfl

/-- Settles O30: window by window. -/
theorem readWindowReportsTheRecord : Obligations.ReadWindowReportsTheRecord := by
  intro b view s hs
  have hrow : ∀ {code fields t}, readWindow [b, view] s = ⟨code, fields, t⟩ →
      exec (.readWindow [b, view]) s = .next (t.answers 2 code fields) := fun ha =>
    exec_answers (op := .readWindow) (args := [b, view]) rfl hs ha
  refine ⟨fun hbad => hrow (readWindow_badArgument hbad), fun h hh hview => ⟨_, hrow (readWindow_ok hh hview), Window.response_length ..,
    fun hwindow => ?free, fun p hwindow => ?staged, fun c w v x hwindow => ?live, fun c v o hwindow => ?retiring⟩⟩
  all_goals rw [hwindow]
  case free =>
    rcases toNat_le_one_iff.mp hview with rfl | rfl <;> rfl
  case staged =>
    rcases toNat_le_one_iff.mp hview with rfl | rfl <;>
      simp [Window.response, Window.viewed, Window.code, Window.presenceFlags, Window.liveCopy, Window.pendingCopy, Window.retireMark,
        Window.mode, Window.view, Window.transitionBytes, orNone]
  case retiring =>
    rcases toNat_le_one_iff.mp hview with rfl | rfl <;>
      simp [Window.response, Window.viewed, Window.code, Window.presenceFlags, Window.liveCopy, Window.pendingCopy, Window.retireMark,
        Window.mode, Window.view, Window.transitionBytes, orNone]
  case live =>
    have hbytes : ∃ kind step length, (Window.live c w v x).transitionBytes = [kind, step, length] ∧
        (x = none → kind = 0x00#8 ∧ step = 0x00#8 ∧ length = 0x00#8) ∧
        (∀ k n, x = some (.fadeIn k n) → kind = 0x01#8 ∧ step = byte k ∧ length = byte n) ∧
        ∀ k n source, x = some (.crossfade k n source) → kind = 0x03#8 ∧ step = byte k ∧ length = byte n := by
      rcases x with _ | ⟨k, n⟩ | ⟨k, n, source⟩
      · exact ⟨_, _, _, rfl, fun _ => ⟨rfl, rfl, rfl⟩, nofun, nofun⟩
      · refine ⟨_, _, _, rfl, nofun, fun a m h => ?_, nofun⟩
        cases h
        exact ⟨rfl, rfl, rfl⟩
      · refine ⟨_, _, _, rfl, nofun, nofun, fun a m i h => ?_⟩
        cases h
        exact ⟨rfl, rfl, rfl⟩
    obtain ⟨kind, step, length, htransition, hnone, hfade, hcross⟩ := hbytes
    refine ⟨(Window.live c w v x).presenceFlags, (Window.live c w v x).viewed view, kind, step, length, ?_, fun hlive => ?_,
      fun hwork => ?_, fun p hwork => ?_, fun hwork => ?_, hnone, hfade, hcross⟩
    · unfold Window.response
      rw [htransition]
      simp [Window.code, Window.mode, Window.view]
    · rw [hlive]
      rfl
    · subst hwork
      exact ⟨by simp [Window.presenceFlags, Window.liveCopy, Window.pendingCopy, Window.retireMark],
        fun hpending => by rw [hpending]; rfl⟩
    · subst hwork
      exact ⟨by simp [Window.presenceFlags, Window.liveCopy, Window.pendingCopy, Window.retireMark],
        fun hpending => by rw [hpending]; rfl⟩
    · subst hwork
      exact ⟨by simp [Window.presenceFlags, Window.liveCopy, Window.pendingCopy, Window.retireMark],
        fun hpending => by rw [hpending]; rfl⟩

/-! ### LIST SCREEN -/

theorem Window.listLayer_isSome {w : Window} {k : ScreenId} (h : w.screen = some k) : w.listLayer.isSome = true := by
  cases w with
  | free => cases h
  | staged | live | retiring => rfl

theorem State.mem_screenList {k : ScreenId} {h : Handle} : h ∈ s.screenList k ↔ s.windows[h].screen = some k := by
  unfold State.screenList
  rw [mem_stackOrder, ← Window.belongsTo_iff]
  constructor
  · intro hsome
    by_contra hno
    rw [if_neg hno] at hsome
    cases hsome
  · intro hbelongs
    rw [if_pos hbelongs]
    exact Window.listLayer_isSome (Window.belongsTo_iff.mp hbelongs)

theorem State.screenList_pairwise (s : State) (k : ScreenId) :
    (s.screenList k).Pairwise fun g h =>
      ∀ m n, s.windows[g].listLayer = some m → s.windows[h].listLayer = some n → stacksBelow (m, g) (n, h) := by
  have hlayer : ∀ {h : Handle} {n : Fin 16}, (if s.windows[h].belongsTo k then s.windows[h].listLayer else none) = some n →
      s.windows[h].listLayer = some n := fun {h n} hh => (Option.ite_none_right_eq_some.mp hh).2
  refine (stackOrder_pairwise _).imp fun {g h} hgh m n hm hn => ?_
  obtain ⟨a, b, ha, hb, hlt⟩ := hgh
  rw [hlayer ha] at hm
  rw [hlayer hb] at hn
  cases hm
  cases hn
  exact hlt

theorem State.screenList_length (s : State) (k : ScreenId) : (s.screenList k).length ≤ 64 := by
  have hnodup : (s.screenList k).Nodup := stackOrder_nodup _
  simpa using hnodup.length_le_card

theorem listScreen_badArgument {b : Byte} (h : 8 ≤ b.toNat) : listScreen [b] s = refuse .badArgument s := by
  have hident : ident 8 (arg [b] 0) = none := ident_eq_none.mpr h
  simp only [listScreen, hident]

theorem listScreen_ok {b : Byte} {k : ScreenId} (hk : b.toNat = k.val) :
    listScreen [b] s = reply (byte (s.screenList k).length :: (s.screenList k).map fun h => byte h) s := by
  have hident : ident 8 (arg [b] 0) = some k := ident_eq_some.mpr hk
  simp only [listScreen, hident]

end

/-- Settles O31: the stacking order of the screen's list. -/
theorem listScreenIsInStackingOrder : Obligations.ListScreenIsInStackingOrder := by
  intro b s hs
  have hrow : ∀ {code fields t}, listScreen [b] s = ⟨code, fields, t⟩ →
      exec (.listScreen [b]) s = .next (t.answers 1 code fields) := fun ha =>
    exec_answers (op := .listScreen) (args := [b]) rfl hs ha
  exact ⟨fun hbad => hrow (listScreen_badArgument hbad), fun k hk => ⟨s.screenList k, hrow (listScreen_ok hk),
    s.screenList_length k, fun _ => State.mem_screenList, s.screenList_pairwise k⟩⟩

end Sys2Proof.Machine
end

section
/-! PROOFS. The stage commands (chapter 2) and the screen commands (chapter 5), each by the branch it takes; the probe's answer from a
plan (R93). -/

namespace Sys2Proof.Machine

section
variable {args : List Byte} {s : State} {k : ScreenId} {b : Byte}

/-! ### SEAL STAGE and DISCARD STAGE -/

theorem sealStage_badArgument (h : 8 ≤ num args 0) : sealStage args s = refuse .badArgument s := by
  simp only [sealStage, ident_eq_none.mpr h]

theorem discardStage_badArgument (h : 8 ≤ num args 0) : discardStage args s = refuse .badArgument s := by
  simp only [discardStage, ident_eq_none.mpr h]

section
variable (hk : num args 0 = k.val)
include hk

theorem sealStage_off (hmode : s.screens[k].mode = .off) : sealStage args s = refuse .screenOff s := by
  simp only [sealStage, ident_eq_some.mpr hk, if_pos hmode]

/-- SEAL STAGE past the test of the screen. -/
theorem sealStage_on (hmode : s.screens[k].mode ≠ .off) :
    sealStage args s =
      match s.stages[k] with
      | .empty => refuse .stageEmpty s
      | .sealed _ _ => refuse .stageSealed s
      | .opened .panel _ => refuse .stageHeld s
      | .opened .link count => reply [] (s.setStage k (.sealed .link count)) := by
  simp only [sealStage, ident_eq_some.mpr hk, if_neg hmode] <;> rfl

theorem discardStage_on :
    discardStage args s =
      match s.stages[k] with
      | .empty => refuse .stageEmpty s
      | .sealed _ _ => refuse .stageSealed s
      | .opened .panel _ => refuse .stageHeld s
      | .opened .link _ => reply [] (s.discardStage k) := by
  simp only [discardStage, ident_eq_some.mpr hk] <;> rfl

end

/-- What a discard leaves of the table (R33). -/
theorem State.discardStage_discardedTable (s : State) (k : ScreenId) : s.discardedTable k (s.discardStage k).windows := by
  intro h
  rw [State.discardStage_windows]
  refine ⟨fun hother => ?_, fun hscreen => ?_⟩
  · rw [if_neg (by rwa [Window.belongsTo_iff])]
  · rw [if_pos (Window.belongsTo_iff.mpr hscreen)]
    refine ⟨fun p hp => ?_, fun c w v x hw => ?_, fun c v o hw => ?_⟩
    · rw [hp]
      rfl
    · rw [hw]
      rfl
    · rw [hw]
      rfl

/-- Settles O32: stage by stage. -/
theorem sealAndDiscardFollowTheStage : Obligations.SealAndDiscardFollowTheStage := by
  intro b s hs
  have hseal : ∀ {code fields t}, sealStage [b] s = ⟨code, fields, t⟩ → exec (.sealStage [b]) s = .next (t.answers 1 code fields) :=
    fun ha => exec_answers (op := .sealStage) (args := [b]) rfl hs ha
  have hdiscard : ∀ {code fields t}, discardStage [b] s = ⟨code, fields, t⟩ →
      exec (.discardStage [b]) s = .next (t.answers 1 code fields) :=
    fun ha => exec_answers (op := .discardStage) (args := [b]) rfl hs ha
  refine ⟨fun hbad => ⟨hseal (sealStage_badArgument hbad), hdiscard (discardStage_badArgument hbad)⟩, fun k hb => ?_⟩
  have hk : num [b] 0 = k.val := hb
  have hdiscards := discardStage_on (s := s) hk
  refine ⟨fun hmode => hseal (sealStage_off hk hmode), fun hmode => ?seals, fun hstage => hdiscard ?_, fun hstage => hdiscard ?_,
    fun n hstage => hdiscard ?_, fun n hstage => ⟨_, hdiscard ?_, s.discardStage_discardedTable k⟩⟩
  case seals =>
    have hseals := sealStage_on hk hmode
    refine ⟨fun hstage => hseal ?_, fun hstage => hseal ?_, fun n hstage => hseal ?_, fun n hstage => hseal ?_⟩
    · rw [hseals, hstage]
      rfl
    · obtain ⟨owner, n, hstage⟩ := hstage
      rw [hseals, hstage]
      rfl
    · rw [hseals, hstage]
      rfl
    · rw [hseals, hstage]
      rfl
  · rw [hdiscards, hstage]
    rfl
  · obtain ⟨owner, n, hstage⟩ := hstage
    rw [hdiscards, hstage]
    rfl
  · rw [hdiscards, hstage]
    rfl
  · rw [hdiscards, hstage]
    rfl

/-! ### CONFIGURE STAGES and READ STAGE -/

theorem Window.hasPendingWork_iff {w : Window} : w.hasPendingWork = true ↔ w.pendingCopy ≠ none ∨ w.retireMark = true := by
  cases w with
  | live c p v x => cases p <;> simp [Window.hasPendingWork, Window.pendingCopy, Window.retireMark]
  | free | staged | retiring => simp [Window.hasPendingWork, Window.pendingCopy, Window.retireMark]

/-- The windows of screen k with pending changes (R38). -/
def State.pendingSet (s : State) (k : ScreenId) : Finset Handle :=
  ((List.finRange 64).filter fun h => s.windows[h].belongsTo k && s.windows[h].hasPendingWork).toFinset

theorem State.pendingSet_card (s : State) (k : ScreenId) : (s.pendingSet k).card = s.pendingCount k :=
  List.toFinset_card_of_nodup ((List.nodup_finRange 64).filter _)

theorem State.mem_pendingSet {h : Handle} :
    h ∈ s.pendingSet k ↔ s.windows[h].screen = some k ∧ (s.windows[h].pendingCopy ≠ none ∨ s.windows[h].retireMark = true) := by
  simp only [State.pendingSet, List.mem_toFinset, List.mem_filter, List.mem_finRange, true_and, Bool.and_eq_true, Window.belongsTo_iff,
    Window.hasPendingWork_iff]

theorem readStage_badArgument (h : 8 ≤ num args 0) : readStage args s = refuse .badArgument s := by
  simp only [readStage, ident_eq_none.mpr h]

theorem readStage_ok (hk : num args 0 = k.val) :
    readStage args s =
      reply (s.stages[k].codes ++ [byte (s.pendingSet k).card, byte (s.stages[k].remaining s.expirySetting)]) s := by
  simp only [readStage, ident_eq_some.mpr hk, State.pendingSet_card]

theorem Stage.codes_pair (g : Stage) : ∃ state owner, g.codes = [state, owner] := by
  cases g <;> exact ⟨_, _, rfl⟩

/-- Settles O33: READ STAGE by the state of the stage. -/
theorem stagesAreConfiguredAndRead : Obligations.StagesAreConfiguredAndRead := by
  intro b s hs
  have hread : ∀ {code fields t}, readStage [b] s = ⟨code, fields, t⟩ → exec (.readStage [b]) s = .next (t.answers 1 code fields) :=
    fun ha => exec_answers (op := .readStage) (args := [b]) rfl hs ha
  refine ⟨exec_answers (op := .configureStages) (args := [b]) rfl hs rfl, fun hbad => hread (readStage_badArgument hbad),
    fun k hk => ?_⟩
  obtain ⟨state, owner, hcodes⟩ := s.stages[k].codes_pair
  have hfields := readStage_ok (args := [b]) (s := s) hk
  rw [hcodes] at hfields
  refine ⟨state, owner, _, s.pendingSet k, hread hfields, fun h => State.mem_pendingSet, fun hstage => ?_, fun n hstage => ?link,
    fun n hstage => ?_, fun n hstage => ?_, fun n hstage => ?_⟩
  all_goals
    rw [hstage] at hcodes ⊢
    cases hcodes
  case link =>
    refine ⟨rfl, rfl, congrArg byte ?_⟩
    show s.expirySetting - n = _
    split <;> omega
  all_goals exact ⟨rfl, rfl, rfl⟩

/-! ### CONFIGURE SCREEN and READ SCREEN -/

theorem formatOf_eq_none : formatOf b = none ↔ 1 < b.toNat := twoCodes_eq_none

theorem formatOf_code (f : Format) : formatOf f.code = some f := by cases f <;> rfl

theorem rateOf_code (r : Rate) : rateOf r.code = some r := by cases r <;> rfl

theorem rateOf_eq_none (h : b ≠ 50#8 ∧ b ≠ 60#8) : rateOf b = none := by
  simp [rateOf, h.1, h.2]

theorem yesNo_of_le (h : b.toNat ≤ 1) : yesNo b = some (decide (b = 0x01#8)) := by
  rcases toNat_le_one_iff.mp h with rfl | rfl <;> rfl

section
variable {format rate red green blue idle lock : Byte}

theorem configureScreen_badArgument
    (h : 8 ≤ b.toNat ∨ 1 < format.toNat ∨ (rate ≠ 50#8 ∧ rate ≠ 60#8) ∨ 1 < lock.toNat) :
    configureScreen [b, format, rate, red, green, blue, idle, lock] s = refuse .badArgument s := by
  unfold configureScreen
  split
  · rfl
  · rename_i k hk
    split
    · rfl
    · rename_i f hf
      split
      · rfl
      · rename_i r hr
        split
        · rfl
        · rename_i l hl
          rcases h with h | h | h | h
          · cases (ident_eq_none.mpr h).symm.trans hk
          · cases (formatOf_eq_none.mpr h).symm.trans hf
          · cases (rateOf_eq_none h).symm.trans hr
          · cases (yesNo_eq_none.mpr h).symm.trans hl

/-- CONFIGURE SCREEN past the tests of its arguments. -/
theorem configureScreen_named (hk : b.toNat = k.val) (f : Format) (r : Rate) (hlock : lock.toNat ≤ 1) :
    configureScreen [b, f.code, r.code, red, green, blue, idle, lock] s =
      if s.screens[k].mode ≠ .off ∧ (f ≠ s.screens[k].format ∨ r ≠ s.screens[k].rate) then refuse .screenRunning s
      else
        reply [] (s.setScreen k
          { s.screens[k] with
            format := f
            rate := r
            background := ⟨red, green, blue⟩
            idleLimit := clamp 240 idle.toNat
            keypadLock := decide (lock = 0x01#8) }) := by
  have hident : ident 8 (arg [b, f.code, r.code, red, green, blue, idle, lock] 0) = some k := ident_eq_some.mpr hk
  have hformat : formatOf (arg [b, f.code, r.code, red, green, blue, idle, lock] 1) = some f := formatOf_code f
  have hrate : rateOf (arg [b, f.code, r.code, red, green, blue, idle, lock] 2) = some r := rateOf_code r
  have hyes : yesNo (arg [b, f.code, r.code, red, green, blue, idle, lock] 7) = some (decide (lock = 0x01#8)) := yesNo_of_le hlock
  unfold configureScreen
  rw [hident]
  dsimp only
  rw [hformat]
  dsimp only
  rw [hrate]
  dsimp only
  rw [hyes]
  rfl

end

theorem readScreen_badArgument (h : 8 ≤ num args 0) : readScreen args s = refuse .badArgument s := by
  simp only [readScreen, ident_eq_none.mpr h]

theorem readScreen_ok (hk : num args 0 = k.val) : readScreen args s = reply s.screens[k].response s := by
  simp only [readScreen, ident_eq_some.mpr hk]

/-- Settles O42: CONFIGURE SCREEN by its tests, READ SCREEN by its layout. -/
theorem screensAreConfiguredAndRead : Obligations.ScreensAreConfiguredAndRead := by
  intro b format rate red green blue idle lock s hs args
  have hset : ∀ {code fields t}, configureScreen args s = ⟨code, fields, t⟩ →
      exec (.configureScreen args) s = .next (t.answers 8 code fields) :=
    fun ha => exec_answers (op := .configureScreen) (args := args) rfl hs ha
  have hread : ∀ {code fields t}, readScreen [b] s = ⟨code, fields, t⟩ → exec (.readScreen [b]) s = .next (t.answers 1 code fields) :=
    fun ha => exec_answers (op := .readScreen) (args := [b]) rfl hs ha
  refine ⟨fun hbad => hset (configureScreen_badArgument hbad), fun hbad => hread (readScreen_badArgument hbad), fun k hk =>
    ⟨fun f r hf hr hlock => ?configures, ?reads⟩⟩
  case configures =>
    subst hf hr
    have hnamed := configureScreen_named (s := s) (red := red) (green := green) (blue := blue) (idle := idle) hk f r hlock
    refine ⟨fun hmode hother => hset ?_, fun hcase => ⟨clamp 240 idle.toNat, clamp_val .., hset ?_⟩⟩
    · exact hnamed.trans (if_pos ⟨hmode, hother⟩)
    · refine hnamed.trans (if_neg ?_)
      rintro ⟨hmode, hother⟩
      rcases hcase with hoff | ⟨hformat, hrate⟩
      · exact hmode hoff
      · exact hother.elim (fun h => h hformat) fun h => h hrate
  case reads =>
    refine ⟨s.screens[k].pins.toList.map orNone, hread (readScreen_ok (args := [b]) hk), by simp, fun i => ⟨fun hpin => ?_, fun j hpin => ?_⟩⟩
    all_goals
      have hget : (s.screens[k].pins.toList.map orNone)[i.val]? = some (orNone s.screens[k].pins[i]) := by simp
      rw [hget, hpin]
    · rfl
    · rfl

/-! ### START SCREEN and STOP SCREEN -/

theorem startScreen_badArgument (h : 8 ≤ num args 0) : startScreen args s = refuse .badArgument s := by
  simp only [startScreen, ident_eq_none.mpr h]

theorem stopScreen_badArgument (h : 8 ≤ num args 0) : stopScreen args s = refuse .badArgument s := by
  simp only [stopScreen, ident_eq_none.mpr h]

section
variable (hk : num args 0 = k.val)
include hk

theorem startScreen_off (hmode : s.screens[k].mode = .off) : startScreen args s = reply [] (s.setScreen k s.screens[k].start) := by
  simp only [startScreen, ident_eq_some.mpr hk, if_pos hmode]

theorem startScreen_on (hmode : s.screens[k].mode ≠ .off) : startScreen args s = reply [] s := by
  simp only [startScreen, ident_eq_some.mpr hk, if_neg hmode]

theorem stopScreen_off (hmode : s.screens[k].mode = .off) : stopScreen args s = reply [] s := by
  simp only [stopScreen, ident_eq_some.mpr hk, if_pos hmode]

theorem stopScreen_on (hmode : s.screens[k].mode ≠ .off) : stopScreen args s = reply [] (s.stopScreen k) := by
  simp only [stopScreen, ident_eq_some.mpr hk, if_neg hmode]

end

theorem State.raiseIf_eq (s : State) (c : Bool) (f : Flag) :
    s.raiseIf c f = { s with events := if c then s.events.raise f else s.events } := by
  cases c <;> rfl

/-- Settles O43: START SCREEN and STOP SCREEN by the screen's state. -/
theorem screensStartAndStop : Obligations.ScreensStartAndStop := by
  intro b s hs
  have hstart : ∀ {code fields t}, startScreen [b] s = ⟨code, fields, t⟩ → exec (.startScreen [b]) s = .next (t.answers 1 code fields) :=
    fun ha => exec_answers (op := .startScreen) (args := [b]) rfl hs ha
  have hstop : ∀ {code fields t}, stopScreen [b] s = ⟨code, fields, t⟩ → exec (.stopScreen [b]) s = .next (t.answers 1 code fields) :=
    fun ha => exec_answers (op := .stopScreen) (args := [b]) rfl hs ha
  refine ⟨fun hbad => ⟨hstart (startScreen_badArgument hbad), hstop (stopScreen_badArgument hbad)⟩, fun k hb => ?_⟩
  have hk : num [b] 0 = k.val := hb
  refine ⟨fun hmode => ⟨hstart (startScreen_off hk hmode), hstop (stopScreen_off hk hmode)⟩, fun hmode =>
    ⟨hstart (startScreen_on hk hmode), (s.halted k).windows, s.screens[k].probe.stop s.screens[k].frame, hstop ?_, fun x y hprobe => ?_,
      fun hprobe => ?_, fun h => ?_⟩⟩
  · rw [stopScreen_on hk hmode, State.stopScreen, State.raiseIf_eq]
    rfl
  · rw [hprobe]
    rfl
  · cases hslot : s.screens[k].probe with
    | waiting x y =>
      rw [hslot] at hprobe
      cases hprobe
    | empty => rfl
    | answered a => rfl
  · rw [State.halted_window]
    refine ⟨fun hother => ?_, fun hscreen => ?_⟩
    · rw [if_neg (by rwa [Window.belongsTo_iff])]
    · rw [if_pos (Window.belongsTo_iff.mpr hscreen)]
      exact ⟨fun p hw => congrArg Window.endTransition hw, fun c w v x hw => congrArg Window.endTransition hw,
        fun c v o hw => congrArg Window.endTransition hw⟩

/-! ### PROBE POINT and the answer of a plan -/

section
variable {x1 x0 y1 y0 : Byte}

theorem probePoint_badArgument (h : 8 ≤ b.toNat) : probePoint [b, x1, x0, y1, y0] s = refuse .badArgument s := by
  have hident : ident 8 (arg [b, x1, x0, y1, y0] 0) = none := ident_eq_none.mpr h
  simp only [probePoint, hident]

theorem probePoint_named (hk : b.toNat = k.val) :
    probePoint [b, x1, x0, y1, y0] s =
      if x1.toNat * 256 + x0.toNat < s.screens[k].format.width ∧ y1.toNat * 256 + y0.toNat < s.screens[k].format.height then
        if s.screens[k].mode = .off then refuse .screenOff s
        else if s.screens[k].probe.isWaiting then refuse .probeBusy s
        else
          ⟨.pending, [], s.setScreen k
            { s.screens[k] with probe := .waiting (x1.toNat * 256 + x0.toNat) (y1.toNat * 256 + y0.toNat) }⟩
      else refuse .badArgument s := by
  have hident : ident 8 (arg [b, x1, x0, y1, y0] 0) = some k := ident_eq_some.mpr hk
  simp only [probePoint, hident]
  rfl

end

section
variable {p : Plan} {x y : Nat} {frame : BitVec 16}

theorem Plan.probe_none (h : ∀ w ∈ p.windows, w.covers x y = false) : p.probe x y frame = ⟨.none, none, none, none, none, frame⟩ := by
  have hfilter : (p.windows.filter fun w => w.covers x y) = [] := List.filter_eq_nil_iff.mpr fun w hw => by simp [h w hw]
  have hupper : p.uppermost x y = none := by
    rw [Plan.uppermost, hfilter]
    rfl
  simp only [Plan.probe, hupper]

theorem Plan.uppermost_eq {below above : List PlanWindow} {w : PlanWindow} (hwindows : p.windows = below ++ w :: above)
    (hcovers : w.covers x y = true) (habove : ∀ u ∈ above, u.covers x y = false) : p.uppermost x y = some w := by
  have hfilter : (above.filter fun u => u.covers x y) = [] := List.filter_eq_nil_iff.mpr fun u hu => by simp [habove u hu]
  have hcons : ((w :: above).filter fun u => u.covers x y) = [w] := by rw [List.filter_cons, if_pos hcovers, hfilter]
  rw [Plan.uppermost, hwindows, List.filter_append, hcons, List.getLast?_append]
  rfl

end

/-- Settles O44: PROBE POINT by its tests, the answer by the uppermost window. -/
theorem probesAreAnsweredFromThePlan : Obligations.ProbesAreAnsweredFromThePlan := by
  refine ⟨?point, fun p x y frame => ⟨Plan.probe_none, ?answer⟩⟩
  case point =>
    intro b x1 x0 y1 y0 s hs x y
    have hrow : ∀ {code fields t}, probePoint [b, x1, x0, y1, y0] s = ⟨code, fields, t⟩ →
        exec (.probePoint [b, x1, x0, y1, y0]) s = .next (t.answers 5 code fields) :=
      fun ha => exec_answers (op := .probePoint) (args := [b, x1, x0, y1, y0]) rfl hs ha
    refine ⟨fun hbad => hrow (probePoint_badArgument hbad), fun k hk => ?_⟩
    have hnamed := probePoint_named (s := s) (x1 := x1) (x0 := x0) (y1 := y1) (y0 := y0) hk
    refine ⟨fun hout => hrow (hnamed.trans (if_neg ?_)), fun hx hy => ?_⟩
    · rintro ⟨hx, hy⟩
      exact hout.elim (Nat.not_le.mpr hx) (Nat.not_le.mpr hy)
    · have hinside := hnamed.trans (if_pos ⟨hx, hy⟩)
      refine ⟨fun hmode => hrow (hinside.trans (if_pos hmode)), fun hmode hwaiting => ?_, fun hmode hwaiting => ?_⟩
      · exact hrow (hinside.trans ((if_neg hmode).trans (if_pos hwaiting)))
      · exact hrow (hinside.trans ((if_neg hmode).trans (if_neg (by rw [hwaiting]; nofun))))
  case answer =>
    intro below above w hwindows hcovers habove border
    have hborder : w.isBorder x y = true ↔ border := decide_eq_true_iff
    refine ⟨w.samplePosition x y, ?_, fun hb => ?_, fun c hc => ?_, fun q hb hq => ?_⟩
    · simp only [Plan.probe, Plan.uppermost_eq hwindows hcovers habove]
      rw [if_congr hborder rfl rfl]
    · rw [PlanWindow.samplePosition, if_pos (hborder.mpr hb)]
    · unfold PlanWindow.samplePosition
      rw [hc]
      exact ite_self none
    · rw [PlanWindow.samplePosition, if_neg (mt hborder.mp hb), hq]
      rfl

end

end Sys2Proof.Machine
end

section
/-! PROOFS. Inputs as they are lost, configured and read (chapter 6), and keys as they are bound and read (chapter 9). -/

namespace Sys2Proof.Machine

section
variable {s : State} {i : InputId}

/-! ### A new presence, and the loss watch -/

/-- A new presence of an input: its changed mark and the INPUT cause follow the change (R105). -/
theorem State.setPresence_change (s : State) (i : InputId) (p : Presence) :
    s.setPresence i p =
      (s.setInput i
        { s.inputs[i] with
          presence := p
          changed := s.inputs[i].changed || s.inputs[i].presence.isPresent != p.isPresent }).raiseIf
        (s.inputs[i].presence.isPresent != p.isPresent && s.inputs[i].eventEnable) .input := by
  have hself : ∀ q, (s.inputs.set i q)[i] = q := fun q => vector_get_set_self ..
  unfold State.setPresence State.presenceChanged
  dsimp only
  by_cases h : s.inputs[i].presence.isPresent = p.isPresent
  · rw [if_pos h, h, bne_self_eq_false, Bool.or_false]
    rfl
  · rw [if_neg h, bne_iff_ne.mpr h, State.setInput_setInput, State.setInput_inputs, hself, Bool.or_true]
    rfl

theorem State.losesInput_iff :
    s.losesInput i = true ↔ s.inputs[i].presence ≠ .absent ∧ s.lossTimeout ≤ s.inputs[i].lossCount + 1 := by
  simp only [State.losesInput, Bool.and_eq_true, Bool.not_eq_true', decide_eq_true_iff]
  rw [← Bool.not_eq_true, Presence.isAbsent_iff]

theorem State.lossTick_absent (h : s.inputs[i].presence = .absent) : s.lossTick i = s := by
  rw [State.lossTick, if_pos (Presence.isAbsent_iff.mpr h)]

theorem State.lossTick_counts (hpresence : s.inputs[i].presence ≠ .absent) (hloses : s.losesInput i = false) :
    s.lossTick i = s.setInput i { s.inputs[i] with lossCount := s.inputs[i].lossCount + 1 } := by
  rw [State.lossTick, if_neg (mt Presence.isAbsent_iff.mp hpresence), hloses]
  rfl

/-- The tick that loses an input (R104). -/
theorem State.lossTick_loses (h : s.losesInput i = true) :
    s.lossTick i =
      (s.setInput i
        { s.inputs[i] with
          presence := .absent
          inProgress := .none
          lossCount := s.inputs[i].lossCount + 1
          changed := s.inputs[i].changed || s.inputs[i].presence.isPresent }).raiseIf
        (s.inputs[i].presence.isPresent && s.inputs[i].eventEnable) .input := by
  have hself : ∀ (t : State) q, (t.setInput i q).inputs[i] = q := fun t q => vector_get_set_self ..
  rw [State.lossTick, if_neg (mt Presence.isAbsent_iff.mp (State.losesInput_iff.mp h).1), h]
  dsimp only
  rw [if_pos rfl, State.setPresence_change, State.raiseIf_setInput, State.setInput_setInput, State.setInput_setInput, hself,
    State.raiseIf_inputs, hself]
  rw [show (Presence.absent).isPresent = false from rfl, Bool.bne_false]

/-! ### READ INPUT -/

/-- A set byte has the bits of the members of the list (R189). -/
theorem getLsbD_foldl_twoPow (l : List (Fin 8)) (b : Byte) (k : Fin 8) :
    (l.foldl (fun b (m : Fin 8) => b ||| BitVec.twoPow 8 m) b).getLsbD k = (b.getLsbD k || decide (k ∈ l)) := by
  induction l generalizing b with
  | nil => simp
  | cons m l ih =>
    rw [List.foldl_cons, ih, BitVec.getLsbD_or, BitVec.getLsbD_twoPow, Bool.or_assoc]
    congr 1
    by_cases hm : m = k
    · simp [hm]
    · simp [hm, Ne.symm hm, Fin.val_inj]

theorem State.pinSet_getLsbD (s : State) (i : InputId) (j : SlotId) (k : ScreenId) :
    (s.pinSet i j).getLsbD k = true ↔ s.screens[k].pins[i] = some j := by
  have hfilter : s.pinSet i j =
      ((List.finRange 8).filter fun k => s.pins k i j).foldl (fun b (k : Fin 8) => b ||| BitVec.twoPow 8 k) 0#8 := by
    rw [List.foldl_filter]
    rfl
  rw [hfilter, getLsbD_foldl_twoPow]
  simp [State.pins]

theorem Input.role_newest {p : Input} {j : SlotId} (h : p.newest = some j) : p.role j = .newest := if_pos h

theorem Input.role_writing {p : Input} {j : SlotId} (h : p.newest ≠ some j) (hslot : p.inProgress.slot = some j) :
    p.role j = .writing := (if_neg h).trans (if_pos hslot)

theorem Input.role_free {p : Input} {j : SlotId} (h : p.newest ≠ some j) (hslot : p.inProgress.slot ≠ some j) : p.role j = .free :=
  (if_neg h).trans (if_neg hslot)

theorem readInput_badArgument {args : List Byte} (h : 12 ≤ num args 0) : readInput args s = refuse .badArgument s := by
  simp only [readInput, ident_eq_none.mpr h]

theorem readInput_ok {args : List Byte} (h : num args 0 = i.val) :
    readInput args s = reply (s.inputResponse i) (s.setInput i { s.inputs[i] with changed := false }) := by
  simp only [readInput, ident_eq_some.mpr h]

/-- The sizes that READ INPUT sends (11.5). -/
def Presence.sizes (p : Presence) : List Byte := sizeBytes p.confirmed ++ sizeBytes p.candidate

theorem State.inputResponse_eq (s : State) (i : InputId) :
    s.inputResponse i =
      [s.inputs[i].presence.code] ++ s.inputs[i].presence.sizes
        ++ [flagByte s.inputs[i].changed, flagByte s.inputs[i].eventEnable, byte s.lossTimeout, orNone s.inputs[i].newest]
        ++ sizeBytes (s.inputs[i].newest.map fun j => s.inputs[i].slots[j].tag)
        ++ [(s.inputs[i].role 0).code, s.pinSet i 0, (s.inputs[i].role 1).code, s.pinSet i 1, (s.inputs[i].role 2).code,
          s.pinSet i 2] := by
  simp only [State.inputResponse, Presence.sizes, List.append_assoc]
  rfl

theorem configureInputs_ok (timeout high low : Byte) (s : State) :
    configureInputs [timeout, high, low] s =
      reply []
        { s with
          lossTimeout := max 4 (min 25 timeout.toNat)
          inputs := mapTable (fun i p => { p with eventEnable := (high ++ low).getLsbD i }) s.inputs } := by
  unfold configureInputs
  rw [ofNat_num2]
  rfl

end

/-- Settles O49: the loss watch by its three cases, the commands by their layouts. -/
theorem inputsAreLostConfiguredAndRead : Obligations.InputsAreLostConfiguredAndRead := by
  refine ⟨?lost, fun timeout high low s hs => ?configured, fun b s hs => ?reads⟩
  case lost =>
    intro i s due present
    have hpresent : s.inputs[i].presence.isPresent = true ↔ present := by
      unfold present
      cases s.inputs[i].presence <;> simp [Presence.isPresent]
    refine ⟨fun hdue => ?_, fun hdue => ?_⟩
    · show Host.Outcome.next (if s.losesInput i then s.lossTick i else s) = _
      rw [if_neg (mt State.losesInput_iff.mp hdue)]
    · have hloses := State.losesInput_iff.mpr hdue
      refine ⟨s.inputs[i].changed || s.inputs[i].presence.isPresent,
        if s.inputs[i].presence.isPresent && s.inputs[i].eventEnable then s.events.raise .input else s.events, ?_, fun h => ?_,
        fun h => ?_, fun h henable => ?_, fun h => ?_⟩
      · show Host.Outcome.next (if s.losesInput i then s.lossTick i else s) = _
        rw [if_pos hloses, State.lossTick_loses hloses, State.raiseIf_eq]
        rfl
      · rw [hpresent.mpr h, Bool.or_true]
      · rw [Bool.eq_false_iff.mpr (mt hpresent.mp h), Bool.or_false]
      · rw [hpresent.mpr h, henable]
        rfl
      · rw [if_neg]
        rw [Bool.and_eq_true]
        exact fun ⟨hp, he⟩ => h ⟨hpresent.mp hp, he⟩
  case configured =>
    exact ⟨_, exec_answers (op := .configureInputs) (args := [timeout, high, low]) rfl hs (configureInputs_ok timeout high low s),
      fun i => mapTable_get ..⟩
  case reads =>
    have hrow : ∀ {code fields t}, readInput [b] s = ⟨code, fields, t⟩ → exec (.readInput [b]) s = .next (t.answers 1 code fields) :=
      fun ha => exec_answers (op := .readInput) (args := [b]) rfl hs ha
    refine ⟨fun hbad => hrow (readInput_badArgument hbad), fun i hb => ?_⟩
    have hi : num [b] 0 = i.val := hb
    have hok := readInput_ok (s := s) hi
    rw [State.inputResponse_eq] at hok
    refine ⟨_, _, _, hrow hok, fun h => ?_, fun h => ?_, fun z h => ?_, fun z h => ?_, fun h => ?_, fun j h => ?_,
      fun j => (s.inputs[i].role j).code, s.pinSet i, rfl, fun j => ⟨fun h => ?_, fun h hslot => ?_, fun h hslot => ?_, fun k =>
        s.pinSet_getLsbD i j k⟩⟩
    · rw [h]
      rfl
    · rw [h]
      rfl
    · rw [h]
      rfl
    · rw [h]
      rfl
    · rw [h]
      rfl
    · rw [h]
      rfl
    · exact congrArg Role.code (Input.role_newest h)
    · exact congrArg Role.code (Input.role_writing h hslot)
    · exact congrArg Role.code (Input.role_free h hslot)

/-! ### BIND KEY and READ KEYS -/

section
variable {b enabled mode code number : Byte} {s : State}

theorem keyModeOf_eq_none : keyModeOf b = none ↔ 1 < b.toNat := twoCodes_eq_none

theorem keyModeOf_code (m : KeyMode) : keyModeOf m.code = some m := by cases m <;> rfl

/-- An action code that names nothing, or a number that names no scene or carousel (R165 tests 3 and 4). -/
theorem actionOf_eq_none : actionOf code number = none ↔ 3 < code.toNat ∨ code ≠ 0x00#8 ∧ 16 ≤ number.toNat := by
  rw [← ident_eq_none]
  unfold actionOf
  by_cases h0 : code = 0x00#8
  · simp [h0]
  by_cases h1 : code = 0x01#8
  · simp [h1]
  by_cases h2 : code = 0x02#8
  · simp [h2]
  by_cases h3 : code = 0x03#8
  · simp [h3]
  · simp only [if_neg h0, if_neg h1, if_neg h2, if_neg h3, true_iff]
    refine .inl ?_
    bv_omega

theorem bindKey_badArgument
    (h : 8 ≤ b.toNat ∨ 1 < enabled.toNat ∨ 1 < mode.toNat ∨ 3 < code.toNat ∨ (code ≠ 0x00#8 ∧ 16 ≤ number.toNat)) :
    bindKey [b, enabled, mode, code, number] s = refuse .badArgument s := by
  rw [← actionOf_eq_none, ← ident_eq_none, ← yesNo_eq_none (b := enabled), ← keyModeOf_eq_none (b := mode)] at h
  unfold bindKey
  split
  · rfl
  · rename_i k hk
    split
    · rename_i e m he hm
      split
      · rfl
      · rename_i a ha
        rcases h with h | h | h | h
        · cases h.symm.trans hk
        · cases h.symm.trans he
        · cases h.symm.trans hm
        · cases h.symm.trans ha
    · rfl

/-- BIND KEY past its tests (R165). -/
theorem bindKey_named {k : KeyId} {a : Action} (hk : b.toNat = k.val) (henabled : enabled.toNat ≤ 1) (m : KeyMode)
    (ha : actionOf code number = some a) :
    bindKey [b, enabled, m.code, code, number] s =
      reply [] (s.setKey k { s.keys[k] with enabled := decide (enabled = 0x01#8), mode := m, action := a, outcome := .none }) := by
  have hident : ident 8 (arg [b, enabled, m.code, code, number] 0) = some k := ident_eq_some.mpr hk
  have hyes : yesNo (arg [b, enabled, m.code, code, number] 1) = some (decide (enabled = 0x01#8)) := yesNo_of_le henabled
  have hmode : keyModeOf (arg [b, enabled, m.code, code, number] 2) = some m := keyModeOf_code m
  have haction : actionOf (arg [b, enabled, m.code, code, number] 3) (arg [b, enabled, m.code, code, number] 4) = some a := ha
  unfold bindKey
  simp only [hident, hyes, hmode, haction]

end

theorem Action.bytes_pair (a : Action) : ∃ action number, a.bytes = [action, number] := by
  cases a <;> exact ⟨_, _, rfl⟩

/-- Settles O59: READ KEYS key by key, BIND KEY by its tests. -/
theorem keysAreBoundAndRead : Obligations.KeysAreBoundAndRead := by
  intro s hs
  refine ⟨⟨fun k => s.keys[k].response, ?_, fun k => ?_⟩, fun b enabled mode code number => ⟨fun hbad => ?_, ?_⟩⟩
  · have hlist : s.keys.toList.flatMap Key.response = (List.finRange 8).flatMap fun k : KeyId => s.keys[k].response := by
      have hmap : s.keys.toList = (List.finRange 8).map fun k : KeyId => s.keys[k] := by
        refine List.ext_getElem (by simp) fun n hn hm => ?_
        simp
      rw [hmap, List.flatMap_map]
    exact exec_answers (op := .readKeys) (args := []) rfl hs (congrArg (fun l => reply l s) hlist)
  · obtain ⟨action, number, hbytes⟩ := s.keys[k].action.bytes_pair
    refine ⟨action, number, ?_, fun h => ?_, fun n h => ?_, fun c h => ?_, fun c h => ?_⟩
    · show _ ++ s.keys[k].action.bytes ++ _ = _
      rw [hbytes]
      rfl
    all_goals
      rw [h] at hbytes
      cases hbytes
      exact ⟨rfl, rfl⟩
  · exact exec_answers (op := .bindKey) (args := [b, enabled, mode, code, number]) rfl hs (bindKey_badArgument hbad)
  · rintro k m a hk henabled rfl h0 h1 h2 h3 hcode
    refine exec_answers (op := .bindKey) (args := [b, enabled, m.code, code, number]) rfl hs (bindKey_named hk henabled m ?_)
    have hcases : code = 0x00#8 ∨ code = 0x01#8 ∨ code = 0x02#8 ∨ code = 0x03#8 := by bv_omega
    rcases hcases with hc | hc | hc | hc
    · rw [h0 hc, hc]
      rfl
    · obtain ⟨n, hn, rfl⟩ := h1 hc
      rw [hc]
      exact congrArg (Option.map Action.recall) (ident_eq_some.mpr hn)
    · obtain ⟨n, hn, rfl⟩ := h2 hc
      rw [hc]
      exact congrArg (Option.map Action.step) (ident_eq_some.mpr hn)
    · obtain ⟨n, hn, rfl⟩ := h3 hc
      rw [hc]
      exact congrArg (Option.map Action.toggle) (ident_eq_some.mpr hn)

end Sys2Proof.Machine
end

section
/-! PROOFS. Carousels as they are set and read, and one advance by itself (chapter 8). -/

namespace Sys2Proof.Machine

/-! ### The chain of clocks (R137) -/

section
variable {cs : Vector Carousel 16} {n : CarouselId}

/-- Carousel a follows carousel b. -/
def followsCarousel (cs : Vector Carousel 16) (a b : CarouselId) : Prop := cs[a].clock = .follow b

theorem reaches_of_chainReaches {fuel : Nat} {k : CarouselId} (h : chainReaches cs n fuel k = true) :
    Relation.ReflTransGen (followsCarousel cs) k n := by
  induction fuel generalizing k with
  | zero => cases h
  | succ fuel ih =>
    simp only [chainReaches, Bool.or_eq_true, decide_eq_true_iff] at h
    rcases h with rfl | h
    · exact .refl
    · cases hclock : cs[k].clock with
      | timer => simp only [hclock, Bool.false_eq_true] at h
      | follow m =>
        simp only [hclock] at h
        exact .head hclock (ih h)

theorem chainReaches_of_reaches {fuel : Nat} {k : CarouselId} (h : Relation.ReflTransGen (followsCarousel cs) k n)
    (hends : endsAtTimer cs fuel k = true) : chainReaches cs n fuel k = true := by
  induction fuel generalizing k with
  | zero => cases hends
  | succ fuel ih =>
    rw [chainReaches, Bool.or_eq_true, decide_eq_true_iff]
    rcases Relation.ReflTransGen.cases_head h with rfl | ⟨m, hclock, hrest⟩
    · exact .inl rfl
    · have hfollow : cs[k].clock = .follow m := hclock
      rw [endsAtTimer_follow hfollow] at hends
      simp only [hfollow]
      exact .inr (ih hrest hends)

theorem closesCycle_iff {clock : Clock} (hends : ∀ k : CarouselId, endsAtTimer cs 16 k = true) :
    closesCycle cs n clock = true ↔ ∃ k, clock = .follow k ∧ Relation.ReflTransGen (followsCarousel cs) k n := by
  cases clock with
  | timer => simp [closesCycle]
  | follow m =>
    constructor
    · exact fun h => ⟨m, rfl, reaches_of_chainReaches h⟩
    · rintro ⟨k, hk, h⟩
      cases hk
      exact chainReaches_of_reaches h (hends m)

end

/-! ### SET CAROUSEL and READ CAROUSEL -/

theorem carouselModeOf_eq_none {b : Byte} : carouselModeOf b = none ↔ 1 < b.toNat := twoCodes_eq_none

theorem carouselModeOf_eq_some {b : Byte} {m : CarouselMode} (h : carouselModeOf b = some m) : m.code = b := by
  unfold carouselModeOf at h
  split at h
  · rename_i hb
    cases h
    exact hb.symm
  · split at h
    · rename_i hb
      cases h
      exact hb.symm
    · cases h

theorem flagByte_of_yesNo {b : Byte} {v : Bool} (h : yesNo b = some v) : flagByte v = b := by
  unfold yesNo at h
  split at h
  · rename_i hb
    cases h
    exact hb.symm
  · split at h
    · rename_i hb
      cases h
      exact hb.symm
    · cases h

theorem clockOf_eq_none {b : Byte} : clockOf b = none ↔ 1 < b.toNat := twoCodes_eq_none

theorem clockOf_eq_some {b : Byte} {c : ClockCode} (h : clockOf b = some c) :
    (c = .timer ∧ b.toNat = 0) ∨ (c = .follow ∧ b.toNat = 1) := by
  unfold clockOf at h
  split at h
  · rename_i hb
    cases h
    exact .inl ⟨rfl, congrArg BitVec.toNat hb⟩
  · split at h
    · rename_i hb
      cases h
      exact .inr ⟨rfl, congrArg BitVec.toNat hb⟩
    · cases h

theorem entriesOf_eq_none {args : List Byte} {n : Nat} :
    entriesOf args n = none ↔ ∃ m, m < n ∧ 12 ≤ num args (3 * m) := by
  induction n generalizing args with
  | zero => simp [entriesOf]
  | succ n ih =>
    have hrest : entriesOf (args.drop 3) n = none ↔ ∃ m, m < n ∧ 12 ≤ num args (3 * (m + 1)) := by
      simp only [ih, num_drop, Nat.mul_add, Nat.add_comm 3]
    have hsplit : (∃ m, m < n + 1 ∧ 12 ≤ num args (3 * m)) ↔ 12 ≤ num args 0 ∨ ∃ m, m < n ∧ 12 ≤ num args (3 * (m + 1)) := by
      constructor
      · rintro ⟨m, hm, h⟩
        cases m with
        | zero => exact .inl h
        | succ m => exact .inr ⟨m, by omega, h⟩
      · rintro (h | ⟨m, hm, h⟩)
        · exact ⟨0, by omega, h⟩
        · exact ⟨m + 1, by omega, h⟩
    rw [hsplit, ← hrest, num, ← ident_eq_none, entriesOf]
    split
    · rename_i i rest hi hr
      simp [hi, hr]
    · rename_i hnone
      simp only [true_iff]
      by_contra hboth
      rw [not_or, Option.eq_none_iff_forall_ne_some, Option.eq_none_iff_forall_ne_some] at hboth
      obtain ⟨hi, hr⟩ := hboth
      push Not at hi hr
      obtain ⟨i, hi⟩ := hi
      obtain ⟨rest, hr⟩ := hr
      exact hnone i rest hi hr

/-- An argument of SET CAROUSEL names nothing (R136 tests 1 to 5). -/
def badCarousel (args : List Byte) : Prop :=
  16 ≤ num args 0 ∨ 1 < num args 1 ∨ 1 < num args 2 ∨ 1 < num args 3 ∨ (num args 3 = 1 ∧ 16 ≤ num args 4) ∨
    8 < num args 5 ∨ ∃ n, n < num args 5 ∧ 12 ≤ num args (6 + 3 * n)

section
variable {args : List Byte} {s : State}

theorem clockWith_eq_none {code : ClockCode} (hcode : clockOf (arg args 3) = some code) :
    clockWith code (arg args 4) = none ↔ num args 3 = 1 ∧ 16 ≤ num args 4 := by
  rcases clockOf_eq_some hcode with ⟨rfl, hb⟩ | ⟨rfl, hb⟩
  · simp [clockWith, num, hb]
  · rw [clockWith, Option.map_eq_none_iff, ident_eq_none]
    simp [num, hb]

theorem clockWith_eq_some {code : ClockCode} {clock : Clock} (hcode : clockOf (arg args 3) = some code)
    (hclock : clockWith code (arg args 4) = some clock) :
    (num args 3 = 0 ∧ clock = .timer) ∨ ∃ k : CarouselId, num args 3 = 1 ∧ num args 4 = k.val ∧ clock = .follow k := by
  rcases clockOf_eq_some hcode with ⟨rfl, hb⟩ | ⟨rfl, hb⟩
  · cases hclock
    exact .inl ⟨hb, rfl⟩
  · obtain ⟨k, hk, rfl⟩ := Option.map_eq_some_iff.mp hclock
    exact .inr ⟨k, hb, ident_eq_some.mp hk, rfl⟩

theorem setCarousel_badArgument (h : badCarousel args) : setCarousel args s = refuse .badArgument s := by
  unfold setCarousel
  split
  · rfl
  · rename_i c hc
    split
    · rename_i mode skip code hmode hskip hcode
      split
      · rfl
      · rename_i clock hclock
        split
        · rfl
        · rename_i hcount
          split
          · rfl
          · rename_i entries hentries
            rcases h with h | h | h | h | h | h | h
            · cases (ident_eq_none.mpr h).symm.trans hc
            · cases (carouselModeOf_eq_none.mpr h).symm.trans hmode
            · cases (yesNo_eq_none.mpr h).symm.trans hskip
            · cases (clockOf_eq_none.mpr h).symm.trans hcode
            · cases ((clockWith_eq_none hcode).mpr h).symm.trans hclock
            · exact absurd h hcount
            · have hnone : entriesOf (args.drop 6) (num args 5) = none := by
                simpa only [entriesOf_eq_none, num_drop] using h
              cases hnone.symm.trans hentries
    · rfl

/-- SET CAROUSEL past the tests of its arguments (R136). -/
theorem setCarousel_named (h : ¬ badCarousel args) {c : CarouselId} (hc : num args 0 = c.val) :
    ∃ mode skip clock entries,
      carouselModeOf (arg args 1) = some mode ∧ yesNo (arg args 2) = some skip ∧
      ((num args 3 = 0 ∧ clock = .timer) ∨ ∃ k : CarouselId, num args 3 = 1 ∧ num args 4 = k.val ∧ clock = .follow k) ∧
      entriesOf (args.drop 6) (num args 5) = some entries ∧
      setCarousel args s =
        if s.carousels[c].busy then refuse .carouselBusy s
        else if closesCycle s.carousels c clock then refuse .chainLoop s
        else reply [] (s.setCarousel c (Carousel.define mode skip clock entries)) := by
  simp only [badCarousel, not_or] at h
  obtain ⟨-, hmode, hskip, hcode, hclock, hcount, hentries⟩ := h
  obtain ⟨mode, hmode⟩ := Option.ne_none_iff_exists'.mp (mt carouselModeOf_eq_none.mp hmode)
  obtain ⟨skip, hskip⟩ := Option.ne_none_iff_exists'.mp (mt yesNo_eq_none.mp hskip)
  obtain ⟨code, hcode⟩ := Option.ne_none_iff_exists'.mp (mt clockOf_eq_none.mp hcode)
  obtain ⟨clock, hclock⟩ := Option.ne_none_iff_exists'.mp (mt (clockWith_eq_none hcode).mp hclock)
  have hsome : entriesOf (args.drop 6) (num args 5) ≠ none := by
    rw [Ne, entriesOf_eq_none]
    simpa only [num_drop] using hentries
  obtain ⟨entries, hentries⟩ := Option.ne_none_iff_exists'.mp hsome
  refine ⟨mode, skip, clock, entries, hmode, hskip, clockWith_eq_some hcode hclock, hentries, ?_⟩
  have hfew : ¬ Config.maxCarouselEntries < num args 5 := hcount
  simp only [setCarousel, ident_eq_some.mpr hc, hmode, hskip, hcode, hclock, if_neg hfew, hentries]

theorem Carousel.busy_iff {c : Carousel} : c.busy = true ↔ c.state = .running ∨ c.request ≠ .none := decide_eq_true_iff

theorem readCarousel_badArgument (h : 16 ≤ num args 0) : readCarousel args s = refuse .badArgument s := by
  simp only [readCarousel, ident_eq_none.mpr h]

theorem readCarousel_ok {c : CarouselId} (h : num args 0 = c.val) : readCarousel args s = reply s.carousels[c].response s := by
  simp only [readCarousel, ident_eq_some.mpr h]

theorem Clock.bytes_pair (c : Clock) : ∃ clock followed, c.bytes = [clock, followed] := by
  cases c <;> exact ⟨_, _, rfl⟩

end

/-- Settles O51: SET CAROUSEL by its tests, READ CAROUSEL by its layout. -/
theorem carouselsAreSetAndRead : Obligations.CarouselsAreSetAndRead := by
  refine ⟨?sets, fun b s hs => ?reads⟩
  case sets =>
    intro args s hs hlaw hcount bad follows
    have hrow : ∀ {code fields t}, setCarousel args s = ⟨code, fields, t⟩ →
        exec (.setCarousel args) s = .next (t.answers args.length code fields) :=
      fun ha => exec_answers (op := .setCarousel) hcount hs ha
    refine ⟨fun hbad => hrow (setCarousel_badArgument hbad), ?_⟩
    intro c hnamed hc busy loops
    obtain ⟨mode, skip, clock, entries, hmode, hskip, hclock, hentries, hset⟩ := setCarousel_named (s := s) hnamed hc
    obtain ⟨hlength, hentry⟩ := entriesOf_eq_some hentries
    have hloops : closesCycle s.carousels c clock = true ↔ loops := by
      rw [closesCycle_iff fun k => (hlaw k).2]
      rcases hclock with ⟨hzero, rfl⟩ | ⟨k, hone, hk, rfl⟩
      · have hno : ¬ loops := fun ⟨k, hone, _⟩ => by omega
        simp [hno]
      · constructor
        · rintro ⟨m, hm, hreach⟩
          cases hm
          exact ⟨k, hone, hk, hreach⟩
        · rintro ⟨m, -, hm, hreach⟩
          obtain rfl : k = m := Fin.ext (hk.symm.trans hm)
          exact ⟨k, rfl, hreach⟩
    refine ⟨fun hbusy => hrow (hset.trans (if_pos (Carousel.busy_iff.mpr hbusy))), fun hbusy hloop => ?_, fun hbusy hloop => ?_⟩
    · exact hrow (hset.trans ((if_neg (mt Carousel.busy_iff.mp hbusy)).trans (if_pos (hloops.mpr hloop))))
    · refine ⟨Carousel.define mode skip clock entries,
        hrow (hset.trans ((if_neg (mt Carousel.busy_iff.mp hbusy)).trans (if_neg (mt hloops.mp hloop)))), rfl, rfl,
        carouselModeOf_eq_some hmode, flagByte_of_yesNo hskip, fun hzero => ?_, fun k hone hk => ?_, hlength, fun n e he => ?_, rfl,
        fun hnil => ?_, fun e he => ?_⟩
      · rcases hclock with ⟨-, h⟩ | ⟨k, hone, -⟩
        · exact h
        · omega
      · rcases hclock with ⟨hzero, -⟩ | ⟨m, -, hm, h⟩
        · omega
        · rw [show k = m from Fin.ext (hk.symm.trans hm)]
          exact h
      · obtain ⟨hinput, hdwell⟩ := hentry n e he
        rw [num_drop] at hinput
        rw [num2_drop, show 6 + (3 * n + 1) = 7 + 3 * n by omega] at hdwell
        exact ⟨hinput, hdwell⟩
      · have hempty : entries = [] := hnil
        rw [Carousel.define, hempty]
        rfl
      · have hfirst : entries[0]? = some e := he
        show (entries[0]?.map Entry.dwell).getD 0 = e.dwell
        rw [hfirst]
        rfl
  case reads =>
    have hrow : ∀ {code fields t}, readCarousel [b] s = ⟨code, fields, t⟩ →
        exec (.readCarousel [b]) s = .next (t.answers 1 code fields) :=
      fun ha => exec_answers (op := .readCarousel) (args := [b]) rfl hs ha
    refine ⟨fun hbad => hrow (readCarousel_badArgument hbad), fun c hb => ?_⟩
    have hc : num [b] 0 = c.val := hb
    obtain ⟨clock, followed, hbytes⟩ := s.carousels[c].clock.bytes_pair
    have hok := readCarousel_ok (s := s) hc
    rw [Carousel.response, hbytes] at hok
    refine ⟨clock, followed, hrow hok, fun h => ?_, fun k h => ?_⟩
    all_goals
      rw [h] at hbytes
      cases hbytes
      exact ⟨rfl, rfl⟩

/-! ### One advance (R143, R144) -/

/-- The first member of an ascending list that has a property. -/
theorem find?_eq_of_least {l : List Nat} (hsorted : l.Pairwise (· < ·)) {p : Nat → Bool} {m : Nat} (hm : m ∈ l) (hp : p m = true)
    (hleast : ∀ g ∈ l, g < m → p g = false) : l.find? p = some m := by
  induction l with
  | nil => cases hm
  | cons a l ih =>
    obtain ⟨ha, hl⟩ := List.pairwise_cons.mp hsorted
    rcases List.mem_cons.mp hm with rfl | hmem
    · exact List.find?_cons_of_pos hp
    · rw [List.find?_cons_of_neg (by simp [hleast a (List.mem_cons_self ..) (ha m hmem)])]
      exact ih hl hmem fun g hg => hleast g (List.mem_cons_of_mem _ hg)

section
variable {c : Carousel} {present : InputId → Bool}

theorem Carousel.mem_candidates {m : Nat} : m ∈ c.candidates ↔ c.index < m ∧ m ≤ c.index + c.entries.length := by
  simp only [Carousel.candidates, List.mem_map, List.mem_range]
  constructor
  · rintro ⟨n, hn, rfl⟩
    omega
  · rintro ⟨hlow, hhigh⟩
    exact ⟨m - c.index - 1, by omega, by omega⟩

theorem Carousel.candidates_ascend (c : Carousel) : c.candidates.Pairwise (· < ·) :=
  List.pairwise_lt_range.map _ fun _ _ h => Nat.add_lt_add_left h _

theorem Carousel.entryPresent_iff {m : Nat} :
    c.entryPresent present m = true ↔ ∃ e, c.entries[m % c.entries.length]? = some e ∧ present e.input = true := by
  unfold Carousel.entryPresent
  split
  · rename_i h
    simp [h]
  · rename_i e h
    simp [h]

theorem Carousel.advance_plain (hskip : c.skipAbsent = false) (hnext : c.index + 1 < c.entries.length) :
    c.advance present = (c.goTo (c.index + 1), .moved) := by
  rw [Carousel.advance, hskip, if_neg nofun, if_pos hnext]

theorem Carousel.advance_loop_wraps (hskip : c.skipAbsent = false) (hlast : c.index + 1 = c.entries.length) (hmode : c.mode = .loop) :
    c.advance present = (c.goTo 0, .wrapped) := by
  rw [Carousel.advance, hskip, if_neg nofun, if_neg (by omega)]
  simp only [hmode]

theorem Carousel.advance_once_ends (hskip : c.skipAbsent = false) (hlast : c.index + 1 = c.entries.length) (hmode : c.mode = .once) :
    c.advance present = (c.finish, .ended) := by
  rw [Carousel.advance, hskip, if_neg nofun, if_neg (by omega)]
  simp only [hmode]

/-- The search round the list for an entry with a PRESENT input (R144). -/
theorem Carousel.advance_search_loop (hskip : c.skipAbsent = true) (hmode : c.mode = .loop) {m : Nat}
    (hfind : c.candidates.find? (c.entryPresent present) = some m) :
    c.advance present = (c.goTo (m % c.entries.length), if m < c.entries.length then .moved else .wrapped) := by
  rw [Carousel.advance, if_pos hskip]
  simp only [hmode, hfind]

theorem Carousel.advance_search_loop_none (hskip : c.skipAbsent = true) (hmode : c.mode = .loop)
    (hfind : c.candidates.find? (c.entryPresent present) = none) :
    c.advance present = ({ c with remaining := c.dwell c.index }, .stays) := by
  rw [Carousel.advance, if_pos hskip]
  simp only [hmode, hfind]

theorem Carousel.advance_search_once (hskip : c.skipAbsent = true) (hmode : c.mode = .once) {m : Nat}
    (hfind : (c.candidates.filter (· < c.entries.length)).find? (c.entryPresent present) = some m) :
    c.advance present = (c.goTo m, .moved) := by
  rw [Carousel.advance, if_pos hskip]
  simp only [hmode, hfind]

theorem Carousel.advance_search_once_none (hskip : c.skipAbsent = true) (hmode : c.mode = .once)
    (hfind : (c.candidates.filter (· < c.entries.length)).find? (c.entryPresent present) = none) :
    c.advance present = (c.finish, .ended) := by
  rw [Carousel.advance, if_pos hskip]
  simp only [hmode, hfind]

/-- The entry taken is one of the list, and its dwell is left. -/
theorem Carousel.goTo_taken {m : Nat} (hm : m < c.entries.length) :
    ∃ e, c.entries[m]? = some e ∧ c.goTo m = { c with index := m, remaining := e.dwell } :=
  ⟨_, List.getElem?_eq_getElem hm, by rw [Carousel.goTo, Carousel.dwell_eq (List.getElem?_eq_getElem hm)]⟩

/-- The current entry is kept, its dwell left again. -/
theorem Carousel.restart_kept (h : c.index < c.entries.length) (state : CarouselState) :
    ∃ e, c.entries[c.index]? = some e ∧
      ({ c with state := state, remaining := c.dwell c.index } : Carousel) = { c with state := state, remaining := e.dwell } :=
  ⟨_, List.getElem?_eq_getElem h, by rw [Carousel.dwell_eq (List.getElem?_eq_getElem h)]⟩

end

/-- Settles O53: by skip-absent and mode. -/
theorem advanceTakesTheNextEntry : Obligations.AdvanceTakesTheNextEntry := by
  intro c present hindex n ready taken kept r
  have hready : ∀ {m}, c.entryPresent present m = true ↔ ready m := Carousel.entryPresent_iff
  refine ⟨fun hskip => ⟨fun hnext => ?_, fun hlast hmode => ?_, fun hlast hmode => ?_⟩, fun hskip hmode => ⟨?_, fun hnone => ?_⟩,
    fun hskip hmode => ⟨?_, fun hnone => ?_⟩⟩
  · rw [show r = _ from Carousel.advance_plain hskip hnext]
    exact ⟨Carousel.goTo_taken hnext, rfl⟩
  · rw [show r = _ from Carousel.advance_loop_wraps hskip hlast hmode]
    exact ⟨Carousel.goTo_taken (by omega), rfl⟩
  · rw [show r = _ from Carousel.advance_once_ends hskip hlast hmode]
    exact ⟨Carousel.restart_kept hindex .ended, rfl⟩
  · intro m hlow hhigh hm hleast
    have hfind := find?_eq_of_least c.candidates_ascend (Carousel.mem_candidates.mpr ⟨hlow, hhigh⟩) (hready.mpr hm) fun g hg hgm =>
      Bool.eq_false_iff.mpr (mt hready.mp (hleast g (Carousel.mem_candidates.mp hg).1 hgm))
    rw [show r = _ from Carousel.advance_search_loop hskip hmode hfind]
    exact ⟨Carousel.goTo_taken (Nat.mod_lt _ (by omega)), fun h => if_pos h, fun h => if_neg (Nat.not_lt.mpr h)⟩
  · have hfind : c.candidates.find? (c.entryPresent present) = none := List.find?_eq_none.mpr fun m hm =>
      mt hready.mp (hnone m (Carousel.mem_candidates.mp hm).1 (Carousel.mem_candidates.mp hm).2)
    rw [show r = _ from Carousel.advance_search_loop_none hskip hmode hfind]
    exact ⟨Carousel.restart_kept hindex c.state, rfl⟩
  · intro m hlow hhigh hm hleast
    have hmem : m ∈ c.candidates.filter (· < c.entries.length) :=
      List.mem_filter.mpr ⟨Carousel.mem_candidates.mpr ⟨hlow, by omega⟩, by simpa using hhigh⟩
    have hfind := find?_eq_of_least (c.candidates_ascend.filter _) hmem (hready.mpr hm) fun g hg hgm =>
      Bool.eq_false_iff.mpr (mt hready.mp (hleast g (Carousel.mem_candidates.mp (List.mem_filter.mp hg).1).1 hgm))
    rw [show r = _ from Carousel.advance_search_once hskip hmode hfind]
    exact ⟨Carousel.goTo_taken hhigh, rfl⟩
  · have hfind : (c.candidates.filter (· < c.entries.length)).find? (c.entryPresent present) = none :=
      List.find?_eq_none.mpr fun m hm => by
        obtain ⟨hcandidate, hlt⟩ := List.mem_filter.mp hm
        exact mt hready.mp (hnone m (Carousel.mem_candidates.mp hcandidate).1 (by simpa using hlt))
    rw [show r = _ from Carousel.advance_search_once_none hskip hmode hfind]
    exact ⟨Carousel.restart_kept hindex .ended, rfl⟩

end Sys2Proof.Machine
end

section
/-! PROOFS. The cascade of one event down the chains of carousels (R143 to R146): what one carousel's advance does to a table, how two
cascades that touch different carousels compose, and the two rows that make one. -/

namespace Sys2Proof.Machine

/-! ### Chains of clocks are acyclic -/

section
variable {cs ds : Vector Carousel 16}

theorem followsCarousel_unique : Relator.RightUnique (followsCarousel cs) := fun a b c hb hc => by
  have h : Clock.follow b = Clock.follow c := Eq.trans (Eq.symm hb) hc
  cases h
  rfl

theorem no_cycle {n : Nat} {k : CarouselId} (h : endsAtTimer cs n k = true) : ¬ Relation.TransGen (followsCarousel cs) k k := by
  induction n generalizing k with
  | zero => cases h
  | succ n ih =>
    intro hcycle
    obtain ⟨m, hclock, hback⟩ := Relation.TransGen.head'_iff.mp hcycle
    rw [endsAtTimer_follow hclock] at h
    exact ih h (Relation.TransGen.tail' hback hclock)

theorem followsCarousel_congr (h : ∀ c : CarouselId, ds[c].clock = cs[c].clock) : followsCarousel ds = followsCarousel cs := by
  funext a b
  rw [followsCarousel, followsCarousel, h]

/-- Two carousels that follow the same one are in different chains. -/
theorem siblings_apart (hends : ∀ c : CarouselId, endsAtTimer cs 16 c = true) {k f g : CarouselId} (hf : cs[f].clock = .follow k)
    (hg : cs[g].clock = .follow k) (hne : f ≠ g) : ¬ Relation.ReflTransGen (followsCarousel cs) f g := by
  intro hreach
  rcases Relation.ReflTransGen.cases_head hreach with hfg | ⟨m, hclock, hrest⟩
  · exact hne hfg
  · obtain rfl : k = m := followsCarousel_unique hf hclock
    exact no_cycle (hends k) (Relation.TransGen.tail' hrest hg)

/-! ### Cascades -/

variable {present : InputId → Bool} {start later : CarouselId → Option Carousel}
variable {wraps ends wraps' ends' : CarouselId → Prop}

/-- The carousel advances from record r to record `new`. -/
def advancesTo (present : InputId → Bool) (r new : Carousel) (wrapped ended : Prop) : Prop :=
  new = (r.advance present).1 ∧ (wrapped ↔ (r.advance present).2 = .wrapped) ∧ (ended ↔ (r.advance present).2 = .ended)

/-- `cascadesTo` with the carousels that wrap and those that end named. -/
structure Cascade (present : InputId → Bool) (start : CarouselId → Option Carousel) (cs ds : Vector Carousel 16)
    (wraps ends : CarouselId → Prop) : Prop where
  starts : ∀ (c : CarouselId) (r : Carousel), start c = some r → advancesTo present r ds[c] (wraps c) (ends c)
  follows : ∀ c : CarouselId, start c = none → followsWrap cs wraps c → advancesTo present cs[c] ds[c] (wraps c) (ends c)
  idle : ∀ c : CarouselId, start c = none → ¬ followsWrap cs wraps c → ds[c] = cs[c] ∧ ¬ wraps c ∧ ¬ ends c

theorem Cascade.cascadesTo (h : Cascade present start cs ds wraps ends) {ended : Prop} (hended : ended ↔ ∃ c, ends c) :
    cascadesTo present start cs ds ended := by
  refine ⟨wraps, ends, fun c r hr => ?_, h.idle, hended⟩
  rcases hr with hstart | ⟨hstart, hfollows, rfl⟩
  · exact h.starts c r hstart
  · exact h.follows c hstart hfollows

/-- No carousel advances in an event that starts none. -/
theorem Cascade.unstarted (cs : Vector Carousel 16) (present : InputId → Bool) :
    Cascade present (fun _ => none) cs cs (fun _ => False) fun _ => False where
  starts := nofun
  follows := fun _ _ ⟨_, _, _, hfalse⟩ => hfalse.elim
  idle := fun _ _ _ => ⟨rfl, id, id⟩

theorem Cascade.keeps (h : Cascade present start cs ds wraps ends) {α : Type} (f : Carousel → α)
    (hadvance : ∀ r : Carousel, f (r.advance present).1 = f r) (hstart : ∀ c r, start c = some r → f r = f cs[c]) (c : CarouselId) :
    f ds[c] = f cs[c] := by
  cases hc : start c with
  | some r => rw [(h.starts c r hc).1, hadvance, hstart c r hc]
  | none =>
    by_cases hfollows : followsWrap cs wraps c
    · rw [(h.follows c hc hfollows).1, hadvance]
    · rw [(h.idle c hc hfollows).1]

theorem Carousel.advance_clock (r : Carousel) (present : InputId → Bool) : (r.advance present).1.clock = r.clock := by
  rw [Carousel.advance_frame]

/-- A carousel is untouched whose chain has no carousel that starts. -/
theorem Cascade.untouched (h : Cascade present start cs ds wraps ends) {n : Nat} {c : CarouselId} (hends : endsAtTimer cs n c = true)
    (hstart : ∀ k, Relation.ReflTransGen (followsCarousel cs) c k → start k = none) :
    ds[c] = cs[c] ∧ ¬ wraps c ∧ ¬ ends c := by
  induction n generalizing c with
  | zero => cases hends
  | succ n ih =>
    refine h.idle c (hstart c .refl) ?_
    rintro ⟨-, k, hclock, hwraps⟩
    rw [endsAtTimer_follow hclock] at hends
    exact (ih hends fun m hm => hstart m (.head hclock hm)).2.1 hwraps

/-- Two events in one: the later one starts no carousel in a chain with one that the first starts. -/
theorem Cascade.compose {es : Vector Carousel 16} (h : Cascade present start cs ds wraps ends)
    (g : Cascade present later ds es wraps' ends') (hends : ∀ c : CarouselId, endsAtTimer cs 16 c = true)
    (hclock : ∀ c : CarouselId, ds[c].clock = cs[c].clock)
    (happart : ∀ c k m, Relation.ReflTransGen (followsCarousel cs) c k → later k ≠ none →
      Relation.ReflTransGen (followsCarousel cs) c m → start m = none) :
    Cascade present (fun c => (later c).or (start c)) cs es (fun c => wraps c ∨ wraps' c) fun c => ends c ∨ ends' c := by
  have hends' : ∀ c : CarouselId, endsAtTimer ds 16 c = true := fun c => (endsAtTimer_congr hclock 16 c).trans (hends c)
  have hfirst : ∀ {c k}, Relation.ReflTransGen (followsCarousel cs) c k → later k ≠ none →
      ds[c] = cs[c] ∧ ¬ wraps c ∧ ¬ ends c := fun hck hk => h.untouched (hends _) fun m hm => happart _ _ m hck hk hm
  have hlater : ∀ {c}, (∀ k, Relation.ReflTransGen (followsCarousel cs) c k → later k = none) →
      es[c] = ds[c] ∧ ¬ wraps' c ∧ ¬ ends' c := fun hc => g.untouched (hends' _) (by rwa [followsCarousel_congr hclock])
  have hcase : ∀ c, (∃ k, Relation.ReflTransGen (followsCarousel cs) c k ∧ later k ≠ none) ∨
      ∀ k, Relation.ReflTransGen (followsCarousel cs) c k → later k = none := fun c => by
    by_contra hno
    push Not at hno
    obtain ⟨hnot, k, hk, hne⟩ := hno
    exact hne (hnot k hk)
  have hrest : ∀ c, later c = none → start c = none →
      (followsWrap cs (fun c => wraps c ∨ wraps' c) c → advancesTo present cs[c] es[c] (wraps c ∨ wraps' c) (ends c ∨ ends' c)) ∧
      (¬ followsWrap cs (fun c => wraps c ∨ wraps' c) c → es[c] = cs[c] ∧ ¬ (wraps c ∨ wraps' c) ∧ ¬ (ends c ∨ ends' c)) := by
    intro c hlaterc hstart
    rcases hcase c with ⟨k, hck, hk⟩ | hnone
    · obtain ⟨hkeep, hwraps, hends⟩ := hfirst hck hk
      have hsame : followsWrap cs (fun c => wraps c ∨ wraps' c) c ↔ followsWrap ds wraps' c := by
        rw [followsWrap, followsWrap, hkeep]
        refine and_congr_right fun _ => exists_congr fun m => and_congr_right fun hm => or_iff_right ?_
        rcases Relation.ReflTransGen.cases_head hck with rfl | ⟨q, hq, hqk⟩
        · exact absurd hlaterc hk
        · obtain rfl : m = q := followsCarousel_unique hm hq
          exact (hfirst hqk hk).2.1
      simp only [hsame, ← hkeep, hwraps, hends, false_or]
      exact ⟨g.follows c hlaterc, g.idle c hlaterc⟩
    · obtain ⟨hkeep, hwraps, hends⟩ := hlater hnone
      have hsame : followsWrap cs (fun c => wraps c ∨ wraps' c) c ↔ followsWrap cs wraps c := by
        refine and_congr_right fun _ => exists_congr fun m => and_congr_right fun hm => or_iff_left ?_
        exact (hlater fun k hk => hnone k (.head hm hk)).2.1
      simp only [hsame, hkeep, hwraps, hends, or_false]
      exact ⟨h.follows c hstart, h.idle c hstart⟩
  refine ⟨fun c r hr => ?starts, fun c hc => (hrest c (Option.or_eq_none_iff.mp hc).1 (Option.or_eq_none_iff.mp hc).2).1,
    fun c hc => (hrest c (Option.or_eq_none_iff.mp hc).1 (Option.or_eq_none_iff.mp hc).2).2⟩
  case starts =>
    cases hc : later c with
    | some q =>
      obtain rfl : q = r := by simpa [hc] using hr
      obtain ⟨-, hwraps, hends⟩ := hfirst .refl (by rw [hc]; nofun)
      simpa only [hwraps, hends, false_or] using g.starts c q hc
    | none =>
      have hstart : start c = some r := by simpa [hc] using hr
      obtain ⟨hkeep, hwraps, hends⟩ := hlater fun k hk => by
        by_contra hne
        rw [happart c k c hk hne .refl] at hstart
        cases hstart
      simpa only [hkeep, hwraps, hends, or_false] using h.starts c r hstart

end

/-! ### What an advance with its followers does -/

section
variable {cs ds es : Vector Carousel 16} {present : InputId → Bool} {wraps ends wraps' ends' : CarouselId → Prop}
variable {k g : CarouselId}

/-- One carousel starts, from record r. -/
def startsAt (k : CarouselId) (r : Carousel) (c : CarouselId) : Option Carousel := if c = k then some r else none

theorem startsAt_eq_some {r q : Carousel} {c : CarouselId} : startsAt k r c = some q ↔ c = k ∧ r = q := by
  unfold startsAt
  split <;> simp [*]

theorem startsAt_eq_none {r : Carousel} {c : CarouselId} : startsAt k r c = none ↔ c ≠ k := by
  unfold startsAt
  split <;> simp [*]

/-- Among the carousels of a list, the RUNNING followers of carousel k start. -/
def followersStart (cs : Vector Carousel 16) (k : CarouselId) (done : List CarouselId) (c : CarouselId) : Option Carousel :=
  if c ∈ done ∧ cs[c].followsRunning k = true then some cs[c] else none

theorem followersStart_eq_some {done : List CarouselId} {c : CarouselId} {r : Carousel} :
    followersStart cs k done c = some r ↔ (c ∈ done ∧ cs[c].followsRunning k = true) ∧ cs[c] = r := by
  unfold followersStart
  split
  · rename_i h
    exact ⟨fun heq => ⟨h, Option.some.inj heq⟩, fun ⟨_, heq⟩ => congrArg some heq⟩
  · rename_i h
    exact ⟨nofun, fun ⟨hf, _⟩ => absurd hf h⟩

theorem followersStart_eq_none {done : List CarouselId} {c : CarouselId} :
    followersStart cs k done c = none ↔ (c ∈ done → cs[c].followsRunning k = false) := by
  unfold followersStart
  split <;> simp_all

/-- An advance that does not wrap is the only one. -/
theorem Cascade.single (hwrap : (cs[k].advance present).2 ≠ .wrapped) :
    Cascade present (startsAt k cs[k]) cs (cs.set k (cs[k].advance present).1) (fun _ => False)
      fun c => c = k ∧ (cs[k].advance present).2 = .ended where
  starts := by
    intro c r hr
    obtain ⟨rfl, rfl⟩ := startsAt_eq_some.mp hr
    exact ⟨vector_get_set_self .., iff_of_false id hwrap, and_iff_right rfl⟩
  follows := fun _ _ ⟨_, _, _, hfalse⟩ => hfalse.elim
  idle := fun c hc _ =>
    ⟨vector_get_set_ne cs _ (Ne.symm (startsAt_eq_none.mp hc)), id, fun ⟨heq, _⟩ => startsAt_eq_none.mp hc heq⟩

/-- An advance that wraps, and then its followers. -/
theorem Cascade.wrap (hends : ∀ c : CarouselId, endsAtTimer cs 16 c = true) (hwrap : (cs[k].advance present).2 = .wrapped)
    (h : Cascade present (followersStart (cs.set k (cs[k].advance present).1) k (List.finRange 16))
      (cs.set k (cs[k].advance present).1) ds wraps ends) :
    Cascade present (startsAt k cs[k]) cs ds (fun c => wraps c ∨ c = k) ends := by
  have hself : (cs.set k (cs[k].advance present).1)[k] = (cs[k].advance present).1 := vector_get_set_self ..
  have hother : ∀ {c : CarouselId}, c ≠ k → (cs.set k (cs[k].advance present).1)[c] = cs[c] := fun hc =>
    vector_get_set_ne cs _ (Ne.symm hc)
  have hclock : ∀ c : CarouselId, (cs.set k (cs[k].advance present).1)[c].clock = cs[c].clock := fun c => by
    by_cases hc : c = k
    · rw [hc, hself, Carousel.advance_clock]
    · rw [hother hc]
  have hk := h.untouched ((endsAtTimer_congr hclock 16 k).trans (hends k)) fun m hm => by
    rw [followersStart_eq_none, ← Bool.not_eq_true, Carousel.followsRunning_iff]
    rintro - ⟨-, hfollow⟩
    rw [hclock] at hfollow
    rw [followsCarousel_congr hclock] at hm
    exact no_cycle (hends k) (Relation.TransGen.tail' hm hfollow)
  obtain ⟨hkeep, hwraps, hended⟩ := hk
  have hstart : ∀ {c}, c ≠ k → followersStart (cs.set k (cs[k].advance present).1) k (List.finRange 16) c =
      if cs[c].followsRunning k = true then some cs[c] else none := fun hc => by
    simp only [followersStart, List.mem_finRange, true_and, hother hc]
  refine ⟨fun c r hr => ?starts, fun c hc hfollows => ?follows, fun c hc hidle => ?idle⟩
  case starts =>
    obtain ⟨rfl, rfl⟩ := startsAt_eq_some.mp hr
    exact ⟨hkeep.trans hself, iff_of_true (.inr rfl) hwrap, iff_of_false hended (by rw [hwrap]; nofun)⟩
  case follows =>
    have hne := startsAt_eq_none.mp hc
    obtain ⟨hrun, m, hclockm, hm⟩ := hfollows
    simp only [hne, or_false]
    by_cases hmk : m = k
    · subst hmk
      exact h.starts c cs[c] ((hstart hne).trans (if_pos (Carousel.followsRunning_iff.mpr ⟨hrun, hclockm⟩)))
    · have hnot : ¬ cs[c].followsRunning k = true := fun hf =>
        hmk (followsCarousel_unique hclockm (Carousel.followsRunning_iff.mp hf).2)
      have hadvance := h.follows c ((hstart hne).trans (if_neg hnot))
        ⟨by rwa [hother hne], m, by rwa [hother hne], hm.resolve_right hmk⟩
      rwa [hother hne] at hadvance
  case idle =>
    have hne := startsAt_eq_none.mp hc
    have hnot : ¬ cs[c].followsRunning k = true := fun hf =>
      hidle ⟨(Carousel.followsRunning_iff.mp hf).1, k, (Carousel.followsRunning_iff.mp hf).2, .inr rfl⟩
    have hstays := h.idle c ((hstart hne).trans (if_neg hnot)) fun ⟨hrun, m, hclockm, hm⟩ =>
      hidle ⟨by rwa [hother hne] at hrun, m, by rwa [hother hne] at hclockm, .inl hm⟩
    rw [hother hne] at hstays
    simpa only [hne, or_false] using hstays

section
variable {done : List CarouselId}

theorem Cascade.followers_clock (h : Cascade present (followersStart cs k done) cs ds wraps ends) (c : CarouselId) :
    ds[c].clock = cs[c].clock :=
  h.keeps Carousel.clock (fun r => r.advance_clock present)
    (fun _ _ hr => congrArg Carousel.clock (followersStart_eq_some.mp hr).2.symm) c

/-- Once some followers of carousel k have advanced, another one is as it was. -/
theorem Cascade.follower_waits (h : Cascade present (followersStart cs k done) cs ds wraps ends)
    (hends : ∀ c : CarouselId, endsAtTimer cs 16 c = true) (hg : g ∉ done) : ds[g].followsRunning k = cs[g].followsRunning k ∧
      (cs[g].followsRunning k = true → ds[g] = cs[g]) := by
  have hkeep : cs[g].clock = .follow k → ds[g] = cs[g] := fun hclock =>
    (h.untouched (hends g) fun m hm => by
      rw [followersStart_eq_none, ← Bool.not_eq_true, Carousel.followsRunning_iff]
      rintro hdone ⟨-, hfollow⟩
      exact siblings_apart hends hclock hfollow (fun heq => hg (heq ▸ hdone)) hm).1
  refine ⟨?_, fun hf => hkeep (Carousel.followsRunning_iff.mp hf).2⟩
  by_cases hclock : cs[g].clock = .follow k
  · rw [hkeep hclock]
  · rw [Bool.eq_iff_iff, Carousel.followsRunning_iff, Carousel.followsRunning_iff, h.followers_clock]
    exact iff_of_false (fun hr => hclock hr.2) fun hr => hclock hr.2

/-- The next follower of carousel k advances, with its own followers. -/
theorem Cascade.follower (h : Cascade present (followersStart cs k done) cs ds wraps ends)
    (hends : ∀ c : CarouselId, endsAtTimer cs 16 c = true) (hg : g ∉ done) (hfollows : cs[g].followsRunning k = true)
    (hchain : Cascade present (startsAt g ds[g]) ds es wraps' ends') :
    Cascade present (followersStart cs k (g :: done)) cs es (fun c => wraps c ∨ wraps' c) fun c => ends c ∨ ends' c := by
  have hboth := h.compose hchain hends h.followers_clock fun c x m hcx hx hcm => by
    obtain rfl : x = g := by
      by_contra hne
      exact hx (startsAt_eq_none.mpr hne)
    rw [followersStart_eq_none, ← Bool.not_eq_true, Carousel.followsRunning_iff]
    rintro hdone ⟨-, hfollow⟩
    have hclock := (Carousel.followsRunning_iff.mp hfollows).2
    have hne : x ≠ m := fun heq => hg (heq ▸ hdone)
    rcases Relation.ReflTransGen.total_of_right_unique followsCarousel_unique hcx hcm with hreach | hreach
    · exact siblings_apart hends hclock hfollow hne hreach
    · exact siblings_apart hends hfollow hclock (Ne.symm hne) hreach
  have hstart : (fun c => (startsAt g ds[g] c).or (followersStart cs k done c)) = followersStart cs k (g :: done) := by
    funext c
    by_cases hc : c = g
    · subst hc
      rw [startsAt_eq_some.mpr ⟨rfl, (h.follower_waits hends hg).2 hfollows⟩, Option.some_or]
      exact (followersStart_eq_some.mpr ⟨⟨List.mem_cons_self .., hfollows⟩, rfl⟩).symm
    · rw [startsAt_eq_none.mpr hc, Option.none_or]
      simp only [followersStart, List.mem_cons, hc, false_or]
  rwa [hstart] at hboth

end

/-- One carousel after another is looked at for a follower of carousel k. -/
def followStep (present : InputId → Bool) (fuel : Nat) (k : CarouselId) (acc : Vector Carousel 16 × Bool) (f : CarouselId) :
    Vector Carousel 16 × Bool :=
  if acc.1[f].followsRunning k then
    let q := advanceChain present fuel f acc.1
    (q.1, acc.2 || q.2)
  else acc

theorem advanceChain_wrapped {fuel : Nat} (hwrap : (cs[k].advance present).2 = .wrapped) :
    advanceChain present (fuel + 1) k cs =
      (List.finRange 16).foldl (followStep present fuel k) (cs.set k (cs[k].advance present).1, false) := by
  simp only [advanceChain, hwrap]
  rfl

theorem advanceChain_single {fuel : Nat} (hwrap : (cs[k].advance present).2 ≠ .wrapped) :
    advanceChain present (fuel + 1) k cs =
      (cs.set k (cs[k].advance present).1, decide ((cs[k].advance present).2 = .ended)) := by
  unfold advanceChain
  cases hr : (cs[k].advance present).2 with
  | wrapped => exact absurd hr hwrap
  | stays | moved | ended => simp only [hr] <;> rfl

/-- The cascade of an advance with enough fuel for its chain. -/
def chainCascades (present : InputId → Bool) (fuel : Nat) : Prop :=
  ∀ (k : CarouselId) (cs : Vector Carousel 16), (∀ c : CarouselId, endsAtTimer cs 16 c = true) →
    (∀ n, endsAtTimer cs n k = true → 17 ≤ n + fuel) →
    ∃ wraps ends, Cascade present (startsAt k cs[k]) cs (advanceChain present fuel k cs).1 wraps ends ∧
      ((advanceChain present fuel k cs).2 = true ↔ ∃ c, ends c)

theorem foldl_followStep_cascade {fuel : Nat} (hchain : chainCascades present fuel)
    (hends : ∀ c : CarouselId, endsAtTimer cs 16 c = true) (hfuel : ∀ n, endsAtTimer cs n k = true → 17 ≤ n + (fuel + 1))
    (l done : List CarouselId) (acc : Vector Carousel 16 × Bool) (hnodup : (l ++ done).Nodup)
    (h : Cascade present (followersStart cs k done) cs acc.1 wraps ends) (hended : acc.2 = true ↔ ∃ c, ends c) :
    ∃ wraps' ends',
      Cascade present (followersStart cs k (l.reverse ++ done)) cs (l.foldl (followStep present fuel k) acc).1 wraps' ends' ∧
      ((l.foldl (followStep present fuel k) acc).2 = true ↔ ∃ c, ends' c) := by
  induction l generalizing done acc wraps ends with
  | nil => exact ⟨wraps, ends, h, hended⟩
  | cons g l ih =>
    have hg : g ∉ done := fun hmem => (List.nodup_cons.mp hnodup).1 (List.mem_append_right _ hmem)
    have hnext : (l ++ g :: done).Nodup := (List.perm_middle.nodup_iff).mpr hnodup
    rw [List.foldl_cons, List.reverse_cons, List.append_assoc, List.singleton_append]
    obtain ⟨hsame, hwaits⟩ := h.follower_waits hends hg
    unfold followStep
    split
    · rename_i hfollows
      rw [hsame] at hfollows
      have hlater : ∀ c : CarouselId, endsAtTimer acc.1 16 c = true := fun c =>
        (endsAtTimer_congr h.followers_clock 16 c).trans (hends c)
      obtain ⟨wraps', ends', hcascade, hended'⟩ := hchain g acc.1 hlater fun n hn => by
        rw [endsAtTimer_congr h.followers_clock] at hn
        cases n with
        | zero => cases hn
        | succ n =>
          rw [endsAtTimer_follow (Carousel.followsRunning_iff.mp hfollows).2] at hn
          have hle := hfuel n hn
          omega
      refine ih (g :: done) _ hnext (h.follower hends hg hfollows hcascade) ?_
      rw [Bool.or_eq_true, hended, hended', exists_or]
    · rename_i hfollows
      rw [hsame] at hfollows
      have hstart : followersStart cs k (g :: done) = followersStart cs k done := by
        funext c
        by_cases hc : c = g
        · subst hc
          simp only [followersStart, hfollows, Bool.false_eq_true, and_false]
        · simp only [followersStart, List.mem_cons, hc, false_or]
      exact ih (g :: done) acc hnext (by rwa [hstart]) hended

/-- The cascade that the model carries out is the one of R145. -/
theorem advanceChain_cascade (present : InputId → Bool) (fuel : Nat) : chainCascades present fuel := by
  induction fuel with
  | zero => exact fun k cs hends hfuel => absurd (hfuel 16 (hends k)) (by omega)
  | succ fuel ih =>
    intro k cs hends hfuel
    by_cases hwrap : (cs[k].advance present).2 = .wrapped
    · have hclock : ∀ c : CarouselId, (cs.set k (cs[k].advance present).1)[c].clock = cs[c].clock := fun c => by
        rw [vector_get_set]
        split
        · rename_i hc
          rw [Carousel.advance_clock, hc]
        · rfl
      have hnone : Cascade present (followersStart (cs.set k (cs[k].advance present).1) k []) (cs.set k (cs[k].advance present).1)
          (cs.set k (cs[k].advance present).1) (fun _ => False) fun _ => False := Cascade.unstarted _ present
      have hall : followersStart (cs.set k (cs[k].advance present).1) k ((List.finRange 16).reverse ++ []) =
          followersStart (cs.set k (cs[k].advance present).1) k (List.finRange 16) := by
        funext c
        simp [followersStart]
      obtain ⟨wraps, ends, hcascade, hended⟩ := foldl_followStep_cascade ih
        (fun c => (endsAtTimer_congr hclock 16 c).trans (hends c)) (fun n hn => hfuel n ((endsAtTimer_congr hclock n k).symm.trans hn))
        (List.finRange 16) [] (cs.set k (cs[k].advance present).1, false) (by simpa using List.nodup_finRange 16) hnone (by simp)
      rw [hall] at hcascade
      rw [advanceChain_wrapped hwrap]
      exact ⟨_, _, hcascade.wrap hends hwrap, hended⟩
    · rw [advanceChain_single hwrap]
      exact ⟨_, _, Cascade.single hwrap, by simp⟩

end

end Sys2Proof.Machine
end

section
/-! PROOFS. The carousels' rows (chapter 8): STEP CAROUSEL, CAROUSEL_ADVANCE and the carousels' part of a dwell tick, as cascades. -/

namespace Sys2Proof.Machine

theorem State.raiseIf_isSet (s : State) (b : Bool) (f g : Flag) :
    (s.raiseIf b f).events.isSet g = (s.events.isSet g || (b && decide (f = g))) := by
  cases b with
  | false => simp
  | true => simp [EventUnit.raise_isSet]

/-! ### One carousel advances -/

section
variable {s : State} {c : CarouselId} {cs ds : Vector Carousel 16} {start : CarouselId → Option Carousel}
variable {present : InputId → Bool} {wraps ends : CarouselId → Prop}

/-- A carousel that starts does so from the record given, whatever its own is. -/
theorem Cascade.reset {r : Carousel} (hc : start c ≠ none) (h : Cascade present start (cs.set c r) ds wraps ends) :
    Cascade present start cs ds wraps ends := by
  have hother : ∀ {k}, start k = none → (cs.set c r)[k] = cs[k] := fun hk =>
    vector_get_set_ne cs r fun heq => hc (heq ▸ hk)
  refine ⟨h.starts, fun k hk hfollows => ?_, fun k hk hidle => ?_⟩
  · have hadvance := h.follows k hk (by rwa [followsWrap, hother hk])
    rwa [hother hk] at hadvance
  · have hstays := h.idle k hk (by rwa [followsWrap, hother hk])
    rwa [hother hk] at hstays

/-- A TIMER carousel that does not start may have another record. -/
theorem Cascade.setTimer {r : Carousel} (h : Cascade present start cs ds wraps ends) (hc : start c = none)
    (hclock : cs[c].clock = .timer) (hr : r.clock = .timer) : Cascade present start (cs.set c r) (ds.set c r) wraps ends := by
  have htimer : ∀ {es : Vector Carousel 16}, es[c].clock = .timer → ¬ followsWrap es wraps c := by
    rintro es htimer ⟨-, k, hfollow, -⟩
    rw [htimer] at hfollow
    cases hfollow
  have hself : ∀ es : Vector Carousel 16, (es.set c r)[c] = r := fun es => vector_get_set_self ..
  have hother : ∀ (es : Vector Carousel 16) {k : CarouselId}, k ≠ c → (es.set c r)[k] = es[k] := fun es _ hk =>
    vector_get_set_ne es r (Ne.symm hk)
  obtain ⟨-, hwraps, hended⟩ := h.idle c hc (htimer hclock)
  refine ⟨fun k q hq => ?_, fun k hk hfollows => ?_, fun k hk hidle => ?_⟩
  · rw [hother ds fun heq => by rw [heq, hc] at hq; cases hq]
    exact h.starts k q hq
  · have hkc : k ≠ c := fun heq => by
      rw [heq] at hfollows
      exact htimer (by rw [hself, hr]) hfollows
    rw [followsWrap, hother cs hkc] at hfollows
    rw [hother ds hkc, hother cs hkc]
    exact h.follows k hk hfollows
  · by_cases hkc : k = c
    · subst hkc
      exact ⟨(hself ds).trans (hself cs).symm, hwraps, hended⟩
    · rw [followsWrap, hother cs hkc] at hidle
      rw [hother ds hkc, hother cs hkc]
      exact h.idle k hk hidle

theorem endsAtTimer_pos {n : Nat} {k : CarouselId} (h : endsAtTimer cs n k = true) : 17 ≤ n + chainFuel := by
  cases n with
  | zero => cases h
  | succ n =>
    show 17 ≤ n + 1 + 16
    omega

/-- An advance of one carousel: the records of its cascade, and CAROUSEL for an end (R143, R145). -/
theorem State.advanceCarousel_cascade (hends : ∀ k : CarouselId, endsAtTimer s.carousels 16 k = true) :
    ∃ cs e wraps ends, s.advanceCarousel c = { s with carousels := cs, events := e } ∧
      Cascade s.inputPresent (startsAt c s.carousels[c]) s.carousels cs wraps ends ∧
      ((∃ k, ends k) → e = s.events.raise .carousel) ∧ ((¬ ∃ k, ends k) → e = s.events) := by
  obtain ⟨wraps, ends, hcascade, hended⟩ := advanceChain_cascade s.inputPresent chainFuel c s.carousels hends fun _ => endsAtTimer_pos
  refine ⟨_, if (advanceChain s.inputPresent chainFuel c s.carousels).2 then s.events.raise .carousel else s.events, wraps, ends, ?_,
    hcascade, fun h => if_pos (hended.mpr h), fun h => if_neg (mt hended.mp h)⟩
  rw [State.advanceCarousel, State.raiseIf_eq]

theorem State.timesOut_iff : s.timesOut c = true ↔ s.carousels[c].counts = true ∧ s.carousels[c].remaining ≤ 1 := by
  rw [State.timesOut, Bool.and_eq_true, decide_eq_true_iff]

theorem State.countDown_counts (h : s.timesOut c = false) :
    s.countDown c = s.setCarousel c { s.carousels[c] with remaining := s.carousels[c].remaining - 1 } := by
  rw [State.countDown, h]
  rfl

/-- A count-down that brings the remaining field to 0. -/
theorem State.countDown_cascade (hends : ∀ k : CarouselId, endsAtTimer s.carousels 16 k = true) (h : s.timesOut c = true) :
    ∃ cs e wraps ends, s.countDown c = { s with carousels := cs, events := e } ∧
      Cascade s.inputPresent (startsAt c { s.carousels[c] with remaining := 0 }) s.carousels cs wraps ends ∧
      ((∃ k, ends k) → e = s.events.raise .carousel) ∧ ((¬ ∃ k, ends k) → e = s.events) := by
  have hzero : s.carousels[c].remaining - 1 = 0 := by
    have hle := (State.timesOut_iff.mp h).2
    omega
  have hself : (s.carousels.set c { s.carousels[c] with remaining := 0 })[c] = { s.carousels[c] with remaining := 0 } :=
    vector_get_set_self ..
  have hclock : ∀ k : CarouselId, (s.carousels.set c { s.carousels[c] with remaining := 0 })[k].clock = s.carousels[k].clock :=
    fun k => by
      rw [vector_get_set]
      split
      · rename_i hck
        rw [hck]
      · rfl
  obtain ⟨cs, e, wraps, ends, hadvance, hcascade, hevents⟩ :=
    State.advanceCarousel_cascade (s := s.setCarousel c { s.carousels[c] with remaining := 0 }) (c := c)
      fun k => (endsAtTimer_congr hclock 16 k).trans (hends k)
  rw [State.setCarousel_carousels, hself] at hcascade
  refine ⟨cs, e, wraps, ends, ?_, hcascade.reset (mt startsAt_eq_none.mp fun hne => hne rfl), hevents⟩
  rw [State.countDown, if_pos h, hzero]
  exact hadvance

theorem State.applyRequests_get (s : State) (c : CarouselId) : s.applyRequests.carousels[c] = s.carousels[c].applyRequest :=
  mapTable_get ..

theorem Carousel.applyRequest_clock (r : Carousel) : r.applyRequest.clock = r.clock := by
  unfold Carousel.applyRequest Carousel.goTo
  split <;> rfl

theorem State.applyRequests_ends (hends : ∀ k : CarouselId, endsAtTimer s.carousels 16 k = true) (k : CarouselId) :
    endsAtTimer s.applyRequests.carousels 16 k = true := by
  refine (endsAtTimer_congr (fun f => ?_) 16 k).trans (hends k)
  rw [State.applyRequests_get, Carousel.applyRequest_clock]

theorem Carousel.applyRequest_running {r : Carousel} (hstate : r.state = .running) (hrequest : r.request ≠ .stop) :
    r.applyRequest = { r with request := .none } := by
  refine r.applyRequest_serves.1 ?_
  cases hq : r.request with
  | none => exact .inl rfl
  | start => exact .inr (.inl ⟨hstate, rfl⟩)
  | stop => exact absurd hq hrequest

theorem Carousel.applyRequest_stop {r : Carousel} (hstate : r.state = .running) (hrequest : r.request = .stop) :
    r.applyRequest = { r with state := .stopped, request := .none } :=
  r.applyRequest_serves.2.2.2 (by rw [hstate]; nofun) hrequest

/-- A lawful RUNNING carousel counts down to 0 at this tick exactly when the row says so. -/
theorem State.advanceDue_iff (hlaw : s.carousels[c].lawful = true) :
    (s.carousels[c].counts && s.applyRequests.timesOut c) = true ↔
      s.carousels[c].state = .running ∧ s.carousels[c].clock = .timer ∧ s.carousels[c].request ≠ .stop ∧
        s.carousels[c].remaining = 1 := by
  rw [Bool.and_eq_true, State.timesOut_iff, Carousel.counts_iff, Carousel.counts_iff, State.applyRequests_get,
    Carousel.applyRequest_clock]
  constructor
  · rintro ⟨⟨hstate, hclock⟩, ⟨hserved, -⟩, hle⟩
    have hrequest : s.carousels[c].request ≠ .stop := fun hstop => by
      rw [Carousel.applyRequest_stop hstate hstop] at hserved
      cases hserved
    rw [Carousel.applyRequest_running hstate hrequest] at hle
    obtain ⟨-, -, -, hindex⟩ := Carousel.lawful_iff.mp hlaw
    exact ⟨hstate, hclock, hrequest, Nat.le_antisymm hle (hindex (Carousel.entries_of_lawful_running hlaw hstate)).2.1⟩
  · rintro ⟨hstate, hclock, hrequest, hremaining⟩
    rw [Carousel.applyRequest_running hstate hrequest]
    exact ⟨⟨hstate, hclock⟩, ⟨hstate, hclock⟩, hremaining.le⟩

end

section
variable {args : List Byte} {s : State} {c : CarouselId}

theorem stepCarousel_badArgument (h : 16 ≤ num args 0) : stepCarousel args s = refuse .badArgument s := by
  simp only [stepCarousel, ident_eq_none.mpr h]

theorem stepCarousel_named (h : num args 0 = c.val) : stepCarousel args s = s.stepCarousel c := by
  simp only [stepCarousel, ident_eq_some.mpr h]

theorem State.stepCarousel_empty (h : s.carousels[c].entries = []) : s.stepCarousel c = refuse .carouselEmpty s := if_pos h

theorem State.stepCarousel_ended (h : s.carousels[c].entries ≠ []) (hstate : s.carousels[c].state = .ended) :
    s.stepCarousel c = refuse .carouselEnded s := (if_neg h).trans (if_pos hstate)

theorem State.stepCarousel_ok (h : s.carousels[c].entries ≠ []) (hstate : s.carousels[c].state ≠ .ended) :
    s.stepCarousel c = reply [] (s.advanceCarousel c) := (if_neg h).trans (if_neg hstate)

/-- An ENDED carousel has entries (R134). -/
theorem Carousel.entries_of_lawful_ended {r : Carousel} (hlaw : r.lawful = true) (hstate : r.state = .ended) : r.entries ≠ [] := by
  intro hnil
  obtain ⟨-, -, hempty, -⟩ := Carousel.lawful_iff.mp hlaw
  rw [(hempty hnil).1] at hstate
  cases hstate

end

/-- Settles O54: STEP CAROUSEL by its tests, then the cascade; the tick at one carousel by the same cascade. -/
theorem stepsAndTimersAdvanceWithFollowers : Obligations.StepsAndTimersAdvanceWithFollowers := by
  intro s c hlaw
  have hends : ∀ k : CarouselId, endsAtTimer s.carousels 16 k = true := fun k => (hlaw k).2
  refine ⟨fun hs b => ⟨fun hbad => ?_, fun hb => ?step⟩, ?advance⟩
  · exact exec_answers (op := .stepCarousel) (args := [b]) rfl hs (stepCarousel_badArgument hbad)
  case step =>
    have hc : num [b] 0 = c.val := hb
    have hrow : ∀ {code fields t}, s.stepCarousel c = ⟨code, fields, t⟩ →
        exec (.stepCarousel [b]) s = .next (t.answers 1 code fields) :=
      fun ha => exec_answers (op := .stepCarousel) (args := [b]) rfl hs ((stepCarousel_named hc).trans ha)
    refine ⟨fun hnil => hrow (State.stepCarousel_empty hnil), fun hended =>
      hrow (State.stepCarousel_ended (Carousel.entries_of_lawful_ended (hlaw c).1 hended) hended), fun hne hstate => ?_⟩
    obtain ⟨cs, e, wraps, ends, hadvance, hcascade, hraised, hquiet⟩ := State.advanceCarousel_cascade (c := c) hends
    refine ⟨cs, e, ∃ k, ends k, hrow ((State.stepCarousel_ok hne hstate).trans ?_), hcascade.cascadesTo Iff.rfl, hraised, hquiet⟩
    rw [hadvance]
    rfl
  case advance =>
    intro due
    have hrow : exec (.carouselAdvance c) s =
        .next (if s.carousels[c].counts && s.applyRequests.timesOut c then s.applyRequests.countDown c else s) := rfl
    have hdue := State.advanceDue_iff (hlaw c).1
    refine ⟨fun h => ?_, fun h => ?_⟩
    · have htimes := (Bool.and_eq_true_iff.mp (hdue.mpr h)).2
      obtain ⟨cs, e, wraps, ends, hcount, hcascade, hraised, hquiet⟩ :=
        State.countDown_cascade (s := s.applyRequests) (c := c) (State.applyRequests_ends hends) htimes
      refine ⟨s.applyRequests.carousels, cs, e, ∃ k, ends k, ?_, fun k => ?_, hcascade.cascadesTo Iff.rfl, hraised, hquiet⟩
      · rw [hrow, if_pos (hdue.mpr h), hcount]
        rfl
      · rw [State.applyRequests_get]
        exact Carousel.applyRequest_serves _
    · rw [hrow, if_neg (mt hdue.mp h)]

end Sys2Proof.Machine
end

section
/-! PROOFS. Ticks screen by screen: the minute (R89, R90), the dwell tick at the stages (R35) and the windows (R123), and the causes they
raise. -/

namespace Sys2Proof.Machine

/-! ### Folds over numbers -/

section
variable {α β : Type} {f : State → α → State}

/-- What each step does at its own number, the whole fold does at every number of the list. -/
theorem foldl_at [DecidableEq α] {obs : α → State → β} {new : α → β → β} (hself : ∀ s a, obs a (f s a) = new a (obs a s))
    (hother : ∀ s a b, a ≠ b → obs b (f s a) = obs b s) {l : List α} (hl : l.Nodup) (s : State) (b : α) :
    obs b (l.foldl f s) = if b ∈ l then new b (obs b s) else obs b s := by
  induction l generalizing s with
  | nil => simp
  | cons a l ih =>
    obtain ⟨ha, hl⟩ := List.nodup_cons.mp hl
    rw [List.foldl_cons, ih hl]
    by_cases hab : a = b
    · subst hab
      rw [if_neg ha, if_pos (List.mem_cons_self ..), hself]
    · rw [hother s a b hab]
      simp [Ne.symm hab]

theorem EventUnit.raise_raise (e : EventUnit) (x : Flag) : (e.raise x).raise x = e.raise x :=
  if_pos (by simp [EventUnit.raise_isSet])

/-- A cause that some steps raise is raised once. -/
theorem foldl_raises {x : Flag} {due : State → α → Bool}
    (hself : ∀ s a, (f s a).events = if due s a then s.events.raise x else s.events)
    (hother : ∀ s a b, a ≠ b → due (f s a) b = due s b) {l : List α} (hl : l.Nodup) (s : State) :
    (l.foldl f s).events = if l.any (due s) then s.events.raise x else s.events := by
  induction l generalizing s with
  | nil => rfl
  | cons a l ih =>
    obtain ⟨ha, hl⟩ := List.nodup_cons.mp hl
    have hany : l.any (due (f s a)) = l.any (due s) := by
      rw [Bool.eq_iff_iff, List.any_eq_true, List.any_eq_true]
      exact exists_congr fun b => and_congr_right fun hb => by rw [hother s a b fun hab => ha (hab ▸ hb)]
    rw [List.foldl_cons, ih hl, hany, hself, List.any_cons]
    cases due s a with
    | false => rfl
    | true =>
      rw [Bool.true_or, if_pos rfl, EventUnit.raise_raise]
      exact ite_self _

theorem foldl_onlyRaised (h : ∀ (s : State) (a : α), s.events.onlyRaised (f s a).events) (l : List α) (s : State) :
    s.events.onlyRaised (l.foldl f s).events := by
  induction l generalizing s with
  | nil => exact EventUnit.onlyRaised_refl _
  | cons a l ih => exact EventUnit.onlyRaised_trans (h s a) (ih _)

end

theorem State.raiseIf_onlyRaised (s : State) (b : Bool) (x : Flag) : s.events.onlyRaised (s.raiseIf b x).events := by
  cases b with
  | false => exact EventUnit.onlyRaised_refl _
  | true => exact EventUnit.raise_onlyRaised _ x

theorem any_finRange_iff {n : Nat} {p : Fin n → Bool} : (List.finRange n).any p = true ↔ ∃ k, p k = true := by
  simp

/-! ### The minute (R89, R90) -/

section
variable {s : State} {k : ScreenId}

/-- A screen after a minute, its shown windows known. -/
def Screen.atMinute (c : Screen) (shown : Bool) : Screen :=
  { c with
    mode := if c.mode = .running ∧ c.idleLimit ≠ 0 ∧
      c.idleLimit.val ≤ (if c.mode = .running ∧ shown = false then min (c.idleCount + 1) 240 else c.idleCount) then .standby else c.mode
    idleCount := if c.mode = .running ∧ shown = false then min (c.idleCount + 1) 240 else c.idleCount }

theorem State.atMinute_eq (s : State) (k : ScreenId) :
    s.screens[k].atMinute (s.hasShown k) =
      { s.screens[k] with
        mode := if s.entersStandby k then .standby else s.screens[k].mode
        idleCount := s.idleAtMinute k } := by
  have hcase : (s.screens[k].mode = .running ∧ s.screens[k].idleLimit ≠ 0 ∧
      s.screens[k].idleLimit.val ≤ s.idleAtMinute k) ↔ s.entersStandby k = true := by
    rw [State.entersStandby, decide_eq_true_iff]
  rw [← if_congr hcase rfl rfl]
  rfl

theorem State.minuteAt_eq (s : State) (k : ScreenId) :
    s.minuteAt k = (s.setScreen k (s.screens[k].atMinute (s.hasShown k))).raiseIf (s.entersStandby k) .standby := by
  rw [State.atMinute_eq, State.minuteAt]
  cases s.entersStandby k <;> rfl

theorem State.minuteAt_screens (s : State) (a b : ScreenId) :
    (s.minuteAt a).screens[b] = if a = b then s.screens[a].atMinute (s.hasShown a) else s.screens[b] := by
  rw [State.minuteAt_eq, State.raiseIf_screens]
  exact vector_get_set ..

theorem State.minuteAt_hasShown (s : State) (a b : ScreenId) : (s.minuteAt a).hasShown b = s.hasShown b := by
  rw [State.hasShown, State.hasShown, State.minuteAt_windows]

theorem State.minute_screen (s : State) (k : ScreenId) : s.minute.screens[k] = s.screens[k].atMinute (s.hasShown k) := by
  have hfold := foldl_at (f := State.minuteAt) (obs := fun k s => (s.screens[k], s.hasShown k))
    (new := fun _ p => (p.1.atMinute p.2, p.2))
    (fun s a => by rw [State.minuteAt_screens, State.minuteAt_hasShown, if_pos rfl])
    (fun s a b hab => by rw [State.minuteAt_screens, State.minuteAt_hasShown, if_neg hab]) (List.nodup_finRange 8) s k
  rw [if_pos (List.mem_finRange k)] at hfold
  obtain ⟨hscreen, -⟩ := Prod.ext_iff.mp hfold
  exact hscreen

theorem State.entersStandby_other (s : State) {a b : ScreenId} (hab : a ≠ b) : (s.minuteAt a).entersStandby b = s.entersStandby b := by
  refine decide_eq_decide.mpr ?_
  rw [State.idleAtMinute, State.idleAtMinute, State.minuteAt_hasShown, State.minuteAt_screens, if_neg hab]

theorem State.minute_events (s : State) :
    s.minute.events = if (List.finRange 8).any s.entersStandby then s.events.raise .standby else s.events :=
  foldl_raises (fun s a => by rw [State.minuteAt_eq, State.raiseIf_events]; rfl) (fun s _ _ hab => s.entersStandby_other hab)
    (List.nodup_finRange 8) s

/-- A minute reaches the screens and the event unit alone. -/
theorem State.minute_frame (s : State) : s.minute = { s with screens := s.minute.screens, events := s.minute.events } := by
  have hframe : ∀ (l : List ScreenId) (s : State), ∃ ss e, l.foldl State.minuteAt s = { s with screens := ss, events := e } := by
    intro l
    induction l with
    | nil => exact fun s => ⟨s.screens, s.events, rfl⟩
    | cons a l ih =>
      intro s
      obtain ⟨ss, e, h⟩ := ih (s.minuteAt a)
      rw [List.foldl_cons, h, State.minuteAt_eq, State.raiseIf_eq]
      exact ⟨ss, e, rfl⟩
  obtain ⟨ss, e, h⟩ := hframe (List.finRange 8) s
  rw [State.minute, h]

theorem State.showsOn_iff : s.showsOn k ↔ s.hasShown k = true := by
  rw [State.hasShown_iff]
  exact exists_congr fun h => and_congr_right fun _ => Window.belongsTo_iff.symm

theorem State.counts_iff : (s.screens[k].mode = .running ∧ ¬ s.showsOn k) ↔ s.screens[k].mode = .running ∧ s.hasShown k = false := by
  rw [State.showsOn_iff, Bool.not_eq_true]

theorem State.entersStandby_iff :
    s.entersStandby k = true ↔ s.screens[k].mode = .running ∧ s.screens[k].idleLimit.val ≠ 0 ∧
      ((¬ s.showsOn k ∧ s.screens[k].idleLimit.val ≤ min (s.screens[k].idleCount + 1) 240) ∨
        (s.showsOn k ∧ s.screens[k].idleLimit.val ≤ s.screens[k].idleCount)) := by
  simp only [State.entersStandby, decide_eq_true_iff, State.idleAtMinute, State.showsOn_iff, ← Fin.val_ne_zero_iff]
  refine and_congr_right fun hmode => and_congr_right fun _ => ?_
  cases hshown : s.hasShown k with
  | false =>
    rw [if_pos ⟨hmode, rfl⟩]
    simp only [Bool.false_eq_true, not_false_eq_true, true_and, false_and, or_false]
  | true =>
    rw [if_neg fun h => nomatch h.2]
    simp only [not_true_eq_false, false_and, true_and, false_or]

end

/-- Settles O46: screen by screen. -/
theorem minutesLeadToStandby : Obligations.MinutesLeadToStandby := by
  intro s hs counts enters
  have henters : ∀ k, s.entersStandby k = true ↔ enters k := fun k => State.entersStandby_iff
  have hcounts : ∀ k, counts k ↔ s.screens[k].mode = .running ∧ s.hasShown k = false := fun k => State.counts_iff
  have hidle : ∀ k, (counts k → s.idleAtMinute k = min (s.screens[k].idleCount + 1) 240) ∧
      (¬ counts k → s.idleAtMinute k = s.screens[k].idleCount) := fun k =>
    ⟨fun h => if_pos ((hcounts k).mp h), fun h => if_neg (mt (hcounts k).mpr h)⟩
  refine ⟨⟨s.minute.screens, s.minute.events, ?_, fun k => ?_, fun h => ?_, fun h => ?_⟩, fun k => ⟨fun h => ?_, fun h => ?_⟩⟩
  · show Host.Outcome.next (if s.startup = .held then s else s.minute) = _
    rw [if_neg hs, ← State.minute_frame]
  · exact ⟨_, _, (s.minute_screen k).trans (s.atMinute_eq k), (hidle k).1, (hidle k).2, fun h => if_pos ((henters k).mpr h),
      fun h => if_neg (mt (henters k).mp h)⟩
  · rw [State.minute_events, if_pos (any_finRange_iff.mpr (h.imp fun k hk => (henters k).mpr hk))]
  · rw [State.minute_events, if_neg]
    rw [any_finRange_iff]
    exact fun ⟨k, hk⟩ => h k ((henters k).mp hk)
  · refine ⟨s.idleAtMinute k, ?_, (hidle k).1, (hidle k).2⟩
    show Host.Outcome.next (if s.entersStandby k then s.minuteAt k else s) = _
    rw [if_pos ((henters k).mpr h), State.minuteAt, if_pos ((henters k).mpr h)]
    rfl
  · show Host.Outcome.next (if s.entersStandby k then s.minuteAt k else s) = _
    rw [if_neg (mt (henters k).mp h)]

end Sys2Proof.Machine
end

section
/-! PROOFS. The dwell tick part by part (R133): hold counts, stages, carousels, the minute. -/

namespace Sys2Proof.Machine

/-! ### Hold counts (R123) -/

section
variable {s : State} {h : Handle} {k : ScreenId}

/-- A view after a dwell tick at which the windows of its screen count. -/
def View.held (v : View) (counts : Bool) : View :=
  { v with hold := if v.mode = .holding ∧ counts = true then min (v.hold + 1) 65535 else v.hold }

theorem View.held_false (v : View) : v.held false = v := by simp [View.held]

theorem View.held_true (v : View) : v.held true = if v.mode = .holding then { v with hold := min (v.hold + 1) 65535 } else v := by
  unfold View.held
  split <;> simp_all

theorem State.countsHolds_iff : s.countsHolds k = true ↔ s.screens[k].mode ≠ .off ∧ s.screens[k].plan ≠ none := by
  rw [State.countsHolds, Bool.and_eq_true, decide_eq_true_iff, Option.isSome_iff_ne_none]

theorem State.holdTicks_noScreen (hscreen : s.windows[h].screen = none) : s.holdTicks.windows[h] = s.windows[h] := by
  refine (mapTable_get ..).trans ?_
  simp only [hscreen]

theorem State.holdTicks_screen (hscreen : s.windows[h].screen = some k) :
    s.holdTicks.windows[h] = if s.countsHolds k then s.windows[h].holdTick else s.windows[h] := by
  refine (mapTable_get ..).trans ?_
  simp only [hscreen]

theorem State.holdTicks_free (hw : s.windows[h] = .free) : s.holdTicks.windows[h] = .free := by
  rw [State.holdTicks_noScreen (by rw [hw]; rfl), hw]

theorem State.holdTicks_staged {p : WindowFields} (hw : s.windows[h] = .staged p) : s.holdTicks.windows[h] = .staged p := by
  rw [State.holdTicks_screen (k := p.screen) (by rw [hw]; rfl), hw]
  exact ite_self _

theorem State.holdTicks_live {c w v x} (hw : s.windows[h] = .live c w v x) :
    s.holdTicks.windows[h] = .live c w (v.held (s.countsHolds c.screen)) x := by
  rw [State.holdTicks_screen (k := c.screen) (by rw [hw]; rfl), hw]
  cases s.countsHolds c.screen with
  | false => rw [View.held_false]; rfl
  | true => rw [View.held_true]; rfl

theorem State.holdTicks_retiring {c v o} (hw : s.windows[h] = .retiring c v o) :
    s.holdTicks.windows[h] = .retiring c (v.held (s.countsHolds c.screen)) o := by
  rw [State.holdTicks_screen (k := c.screen) (by rw [hw]; rfl), hw]
  cases s.countsHolds c.screen with
  | false => rw [View.held_false]; rfl
  | true => rw [View.held_true]; rfl

/-! ### Stages (R35) -/

/-- The stage expires at this dwell tick, the expiry setting known. -/
def Stage.expiresAt (g : Stage) (setting : Nat) : Bool :=
  match g with
  | .opened .link count => expires setting (nextExpiryCount count)
  | .empty | .opened .panel _ | .sealed _ _ => false

/-- The count of an OPEN(LINK) stage advances. -/
def Stage.aged : Stage → Stage
  | .opened .link count => .opened .link (nextExpiryCount count)
  | .empty => .empty
  | .opened .panel count => .opened .panel count
  | .sealed owner count => .sealed owner count

/-- A stage after a dwell tick. -/
def Stage.ticked (g : Stage) (setting : Nat) : Stage := if g.expiresAt setting then .empty else g.aged

theorem State.stageExpires_eq (s : State) (k : ScreenId) : s.stageExpires k = s.stages[k].expiresAt s.expirySetting := by
  unfold State.stageExpires Stage.expiresAt
  cases s.stages[k] with
  | opened owner count => cases owner <;> rfl
  | empty | sealed => rfl

theorem State.stageExpires_iff :
    s.stageExpires k = true ↔ ∃ n, s.stages[k] = .opened .link n ∧ s.expirySetting ≠ 0 ∧ s.expirySetting ≤ min (n + 1) 255 ∧ n ≠ 0 := by
  rw [State.stageExpires_eq]
  cases hstage : s.stages[k] with
  | empty => simp [Stage.expiresAt]
  | sealed => simp [Stage.expiresAt]
  | opened owner n =>
    cases owner with
    | panel => simp [Stage.expiresAt]
    | link =>
      simp only [Stage.expiresAt, expires_iff, nextExpiryCount, Stage.opened.injEq, true_and, exists_eq_left']
      refine and_congr_right fun _ => and_congr_right fun _ => ?_
      omega

theorem State.stageTick_eq (s : State) (k : ScreenId) :
    s.stageTick k = if s.stageExpires k then (s.discardStage k).raise .expired else s.setStage k s.stages[k].aged := by
  have hkeep : ∀ g, s.stages[k] = g → s.setStage k g = s := fun g hg => by
    rw [← hg, State.setStage]
    congr 1
    exact table_ext fun j => by
      rw [vector_get_set]
      split
      · rename_i hkj
        rw [hkj]
      · rfl
  rw [State.stageExpires_eq]
  cases hstage : s.stages[k] with
  | empty => simp only [State.stageTick, hstage, Stage.expiresAt, Stage.aged, hkeep _ hstage] <;> rfl
  | sealed => simp only [State.stageTick, hstage, Stage.expiresAt, Stage.aged, hkeep _ hstage] <;> rfl
  | opened owner n =>
    cases owner with
    | panel => simp only [State.stageTick, hstage, Stage.expiresAt, Stage.aged, hkeep _ hstage] <;> rfl
    | link => simp only [State.stageTick, hstage, Stage.expiresAt, Stage.aged] <;> rfl

theorem State.stageTick_stage (s : State) (a b : ScreenId) :
    (s.stageTick a).stages[b] = if a = b then s.stages[a].ticked s.expirySetting else s.stages[b] := by
  rw [State.stageTick_eq, Stage.ticked, ← State.stageExpires_eq]
  cases s.stageExpires a with
  | true => exact vector_get_set ..
  | false => exact vector_get_set ..

theorem State.stageTick_events (s : State) (k : ScreenId) :
    (s.stageTick k).events = if s.stageExpires k then s.events.raise .expired else s.events := by
  rw [State.stageTick_eq]
  split <;> rfl

theorem State.stageTick_window (s : State) (k : ScreenId) (h : Handle) :
    (s.stageTick k).windows[h] = if s.windows[h].belongsTo k && s.stageExpires k then s.windows[h].discard else s.windows[h] := by
  rw [State.stageTick_eq]
  cases s.stageExpires k with
  | true =>
    rw [Bool.and_true]
    exact s.discardStage_windows k h
  | false =>
    rw [Bool.and_false]
    rfl

theorem State.stageExpires_other (s : State) {a b : ScreenId} (hab : a ≠ b) : (s.stageTick a).stageExpires b = s.stageExpires b := by
  rw [State.stageExpires_eq, State.stageExpires_eq, State.stageTick_expirySetting, State.stageTick_stage, if_neg hab]

theorem Window.belongsTo_of_discard {w : Window} (h : w.discard.belongsTo k = true) : w.belongsTo k = true := by
  cases w with
  | staged => cases h
  | free | live | retiring => exact h

/-- The dwell tick at one stage after another. -/
def State.stageTicks (s : State) (l : List ScreenId) : State := l.foldl State.stageTick s

theorem State.stageTicks_window {l : List ScreenId} (hl : l.Nodup) (s : State) (h : Handle) :
    (s.stageTicks l).windows[h] =
      if l.any fun k => s.windows[h].belongsTo k && s.stageExpires k then s.windows[h].discard else s.windows[h] := by
  induction l generalizing s with
  | nil => rfl
  | cons a l ih =>
    obtain ⟨ha, hl⟩ := List.nodup_cons.mp hl
    have hstep : s.stageTicks (a :: l) = (s.stageTick a).stageTicks l := rfl
    have hother : ∀ k ∈ l, (s.stageTick a).stageExpires k = s.stageExpires k := fun k hk =>
      s.stageExpires_other fun hak => ha (hak ▸ hk)
    rw [hstep, ih hl, List.any_cons, s.stageTick_window]
    cases hhit : s.windows[h].belongsTo a && s.stageExpires a with
    | true =>
      have hnone : (l.any fun k => s.windows[h].discard.belongsTo k && (s.stageTick a).stageExpires k) = false := by
        rw [List.any_eq_false]
        intro k hk hboth
        have hbelongs := Window.belongsTo_of_discard (Bool.and_eq_true_iff.mp hboth).1
        exact ha (Window.belongsTo_unique (Bool.and_eq_true_iff.mp hhit).1 hbelongs ▸ hk)
      rw [if_pos rfl, hnone]
      rfl
    | false =>
      have hsame : (l.any fun k => s.windows[h].belongsTo k && (s.stageTick a).stageExpires k) =
          l.any fun k => s.windows[h].belongsTo k && s.stageExpires k := by
        rw [Bool.eq_iff_iff, List.any_eq_true, List.any_eq_true]
        exact exists_congr fun k => and_congr_right fun hk => by rw [hother k hk]
      have hkept : (if false = true then s.windows[h].discard else s.windows[h]) = s.windows[h] := rfl
      rw [hkept, hsame]
      rfl

theorem State.stageTicks_stage (s : State) (k : ScreenId) :
    (s.stageTicks (List.finRange 8)).stages[k] = s.stages[k].ticked s.expirySetting := by
  have hfold := foldl_at (f := State.stageTick) (obs := fun k s => (s.stages[k], s.expirySetting))
    (new := fun _ p => (p.1.ticked p.2, p.2))
    (fun s a => by rw [State.stageTick_stage, State.stageTick_expirySetting, if_pos rfl])
    (fun s a b hab => by rw [State.stageTick_stage, State.stageTick_expirySetting, if_neg hab]) (List.nodup_finRange 8) s k
  rw [if_pos (List.mem_finRange k)] at hfold
  obtain ⟨hstage, -⟩ := Prod.ext_iff.mp hfold
  exact hstage

theorem State.stageTicks_events (s : State) :
    (s.stageTicks (List.finRange 8)).events =
      if (List.finRange 8).any s.stageExpires then s.events.raise .expired else s.events :=
  foldl_raises State.stageTick_events (fun s _ _ hab => s.stageExpires_other hab) (List.nodup_finRange 8) s

/-- A window after the dwell tick at the stages. -/
theorem State.stageTicks_screen (hscreen : s.windows[h].screen = some k) :
    (s.stageTicks (List.finRange 8)).windows[h] = if s.stageExpires k then s.windows[h].discard else s.windows[h] := by
  have hany : ((List.finRange 8).any fun j => s.windows[h].belongsTo j && s.stageExpires j) = s.stageExpires k := by
    rw [Bool.eq_iff_iff, any_finRange_iff]
    constructor
    · rintro ⟨j, hj⟩
      obtain ⟨hbelongs, hexpires⟩ := Bool.and_eq_true_iff.mp hj
      rwa [Window.belongsTo_unique (Window.belongsTo_iff.mpr hscreen) hbelongs]
    · exact fun hexpires => ⟨k, Bool.and_eq_true_iff.mpr ⟨Window.belongsTo_iff.mpr hscreen, hexpires⟩⟩
  rw [State.stageTicks_window (List.nodup_finRange 8), hany]

theorem State.stageTicks_free (hw : s.windows[h] = .free) : (s.stageTicks (List.finRange 8)).windows[h] = .free := by
  rw [State.stageTicks_window (List.nodup_finRange 8), hw]
  exact ite_self _

end

/-! ### The parts of a dwell tick -/

section
variable (s : State)

/-- A dwell tick up to the stages. -/
def State.dwellStages : State := ({ s with timebase := s.timebase.dwell } : State).holdTicks.stageTicks (List.finRange 8)

theorem State.dwellTick_eq :
    s.dwellTick = if s.timebase.dwellCompletes then s.dwellStages.carouselTick.minute else s.dwellStages.carouselTick := rfl

theorem State.stageTicks_keeps {β : Type} (g : State → β) (hg : ∀ s k, g (s.stageTick k) = g s) (l : List ScreenId) :
    g (s.stageTicks l) = g s := foldl_keeps g State.stageTick hg l s

theorem State.dwellStages_screens : s.dwellStages.screens = s.screens :=
  State.stageTicks_keeps _ State.screens State.stageTick_screens _

theorem State.dwellStages_carousels : s.dwellStages.carousels = s.carousels :=
  State.stageTicks_keeps _ State.carousels State.stageTick_carousels _

theorem State.dwellStages_inputs : s.dwellStages.inputs = s.inputs :=
  State.stageTicks_keeps _ State.inputs State.stageTick_inputs _

theorem State.dwellStages_timebase : s.dwellStages.timebase = s.timebase.dwell :=
  State.stageTicks_keeps _ State.timebase State.stageTick_timebase _

theorem State.dwellStages_events :
    s.dwellStages.events = if (List.finRange 8).any s.stageExpires then s.events.raise .expired else s.events :=
  State.stageTicks_events _

theorem State.dwellTick_windows : s.dwellTick.windows = s.dwellStages.windows := by
  rw [State.dwellTick_eq]
  split <;> simp only [State.minute_windows, State.carouselTick_windows]

theorem State.dwellTick_stages : s.dwellTick.stages = s.dwellStages.stages := by
  rw [State.dwellTick_eq]
  split <;> simp only [State.minute_stages, State.carouselTick_stages]

theorem State.dwellTick_timebase : s.dwellTick.timebase = s.timebase.dwell := by
  rw [State.dwellTick_eq]
  split <;> simp only [State.minute_timebase, State.carouselTick_timebase, State.dwellStages_timebase]

theorem State.dwellTick_carousels : s.dwellTick.carousels = s.dwellStages.carouselTick.carousels := by
  rw [State.dwellTick_eq]
  split
  · exact State.minute_carousels _
  · rfl

/-! ### The causes of a dwell tick -/

theorem State.countDown_events (c : CarouselId) : ∃ b : Bool, (s.countDown c).events = (s.raiseIf b .carousel).events := by
  unfold State.countDown State.advanceCarousel
  dsimp only
  split
  · exact ⟨_, by rw [State.raiseIf_events, State.raiseIf_events]; rfl⟩
  · exact ⟨false, rfl⟩

theorem State.carouselTick_onlyRaised : s.events.onlyRaised s.carouselTick.events := by
  refine foldl_onlyRaised (fun u c => ?_) (List.finRange 16) s.applyRequests
  split
  · obtain ⟨b, hb⟩ := u.countDown_events c
    rw [hb]
    exact u.raiseIf_onlyRaised b .carousel
  · exact EventUnit.onlyRaised_refl _

theorem State.carouselTick_isSet {f : Flag} (hf : f ≠ .carousel) : s.carouselTick.events.isSet f = s.events.isSet f := by
  refine foldl_keeps (fun u : State => u.events.isSet f) _ (fun u c => ?_) (List.finRange 16) s.applyRequests
  split
  · obtain ⟨b, hb⟩ := u.countDown_events c
    rw [hb, State.raiseIf_isSet, decide_eq_false (Ne.symm hf), Bool.and_false, Bool.or_false]
  · rfl

theorem State.stageTick_onlyRaised (k : ScreenId) : s.events.onlyRaised (s.stageTick k).events := by
  rw [State.stageTick_events]
  exact s.raiseIf_events (s.stageExpires k) .expired ▸ s.raiseIf_onlyRaised (s.stageExpires k) .expired

theorem State.minuteAt_onlyRaised (k : ScreenId) : s.events.onlyRaised (s.minuteAt k).events := by
  rw [State.minuteAt_eq]
  exact (s.setScreen k _).raiseIf_onlyRaised (s.entersStandby k) .standby

theorem State.dwellTick_onlyRaised : s.events.onlyRaised s.dwellTick.events := by
  have hstages : s.events.onlyRaised s.dwellStages.events :=
    foldl_onlyRaised State.stageTick_onlyRaised (List.finRange 8) ({ s with timebase := s.timebase.dwell } : State).holdTicks
  have hparts := EventUnit.onlyRaised_trans hstages s.dwellStages.carouselTick_onlyRaised
  rw [State.dwellTick_eq]
  split
  · exact EventUnit.onlyRaised_trans hparts (foldl_onlyRaised State.minuteAt_onlyRaised (List.finRange 8) _)
  · exact hparts

theorem State.dwellStages_isSet (f : Flag) :
    s.dwellStages.events.isSet f = (s.events.isSet f || ((List.finRange 8).any s.stageExpires && decide (Flag.expired = f))) := by
  rw [State.dwellStages_events, ← State.raiseIf_events, State.raiseIf_isSet]

theorem State.minute_isSet (f : Flag) :
    s.minute.events.isSet f = (s.events.isSet f || ((List.finRange 8).any s.entersStandby && decide (Flag.standby = f))) := by
  rw [State.minute_events, ← State.raiseIf_events, State.raiseIf_isSet]

/-- A flag but STANDBY is, after a dwell tick, as the stages and the carousels leave it. -/
theorem State.dwellTick_isSet {f : Flag} (hf : f ≠ .standby) :
    s.dwellTick.events.isSet f = s.dwellStages.carouselTick.events.isSet f := by
  rw [State.dwellTick_eq]
  split
  · rw [State.minute_isSet, decide_eq_false (Ne.symm hf), Bool.and_false, Bool.or_false]
  · rfl

end

end Sys2Proof.Machine
end

section
/-! PROOFS. What a dwell tick leaves of stages, windows and causes (R35, R123, R133), and of the carousels (R141, R142, R145). -/

namespace Sys2Proof.Machine

/-! ### Stages, windows and the minute -/

section
variable {s : State} {h : Handle} {k : ScreenId}

theorem State.dwellStages_stage (s : State) (k : ScreenId) :
    s.dwellStages.stages[k] = s.stages[k].ticked s.expirySetting := State.stageTicks_stage _ k

theorem State.dwellStages_free (hw : s.windows[h] = .free) : s.dwellStages.windows[h] = .free :=
  State.stageTicks_free (State.holdTicks_free hw)

theorem State.dwellStages_staged {p : WindowFields} (hw : s.windows[h] = .staged p) :
    s.dwellStages.windows[h] = if s.stageExpires p.screen then .free else .staged p := by
  have hheld : ({ s with timebase := s.timebase.dwell } : State).holdTicks.windows[h] = .staged p := State.holdTicks_staged hw
  refine (State.stageTicks_screen (k := p.screen) (by rw [hheld]; rfl)).trans ?_
  rw [hheld]
  rfl

theorem State.dwellStages_live {c w v x} (hw : s.windows[h] = .live c w v x) :
    s.dwellStages.windows[h] =
      if s.stageExpires c.screen then .live c .none (v.held (s.countsHolds c.screen)) x
      else .live c w (v.held (s.countsHolds c.screen)) x := by
  have hheld : ({ s with timebase := s.timebase.dwell } : State).holdTicks.windows[h] =
      .live c w (v.held (s.countsHolds c.screen)) x := State.holdTicks_live hw
  refine (State.stageTicks_screen (k := c.screen) (by rw [hheld]; rfl)).trans ?_
  rw [hheld]
  rfl

theorem State.dwellStages_retiring {c v o} (hw : s.windows[h] = .retiring c v o) :
    s.dwellStages.windows[h] = .retiring c (v.held (s.countsHolds c.screen)) o := by
  have hheld : ({ s with timebase := s.timebase.dwell } : State).holdTicks.windows[h] =
      .retiring c (v.held (s.countsHolds c.screen)) o := State.holdTicks_retiring hw
  refine (State.stageTicks_screen (k := c.screen) (by rw [hheld]; rfl)).trans ?_
  rw [hheld]
  exact ite_self _

/-- The stages and the hold counts leave the shown windows where they are. -/
theorem State.dwellStages_shown (h : Handle) (k : ScreenId) :
    (s.dwellStages.windows[h].isShown = true ∧ s.dwellStages.windows[h].belongsTo k = true) ↔
      s.windows[h].isShown = true ∧ s.windows[h].belongsTo k = true := by
  cases hw : s.windows[h] with
  | free => rw [State.dwellStages_free hw]
  | staged p =>
    rw [State.dwellStages_staged hw]
    exact iff_of_false (fun hboth => by split at hboth <;> exact nomatch hboth.1) fun hboth => nomatch hboth.1
  | live c w v x =>
    rw [State.dwellStages_live hw]
    split <;> exact Iff.rfl
  | retiring c v o =>
    rw [State.dwellStages_retiring hw]
    exact Iff.rfl

theorem State.dwellStages_hasShown (s : State) (k : ScreenId) : s.dwellStages.carouselTick.hasShown k = s.hasShown k := by
  rw [Bool.eq_iff_iff, State.hasShown_iff, State.hasShown_iff, State.carouselTick_windows]
  exact exists_congr fun h => State.dwellStages_shown h k

theorem State.dwellStages_minute_screens (s : State) : s.dwellStages.carouselTick.minute.screens = s.minute.screens :=
  table_ext fun k => by
    rw [State.minute_screen, State.minute_screen, State.dwellStages_hasShown, State.carouselTick_screens, State.dwellStages_screens]

theorem State.dwellStages_entersStandby (s : State) (k : ScreenId) :
    s.dwellStages.carouselTick.entersStandby k = s.entersStandby k := by
  rw [Bool.eq_iff_iff, State.entersStandby_iff, State.entersStandby_iff]
  simp only [State.showsOn_iff, State.dwellStages_hasShown, State.carouselTick_screens, State.dwellStages_screens]

theorem State.dwellTick_minute (h : s.timebase.dwellCompletes = true) : s.dwellTick = s.dwellStages.carouselTick.minute := by
  rw [State.dwellTick_eq, if_pos h]

theorem State.dwellTick_noMinute (h : s.timebase.dwellCompletes = false) : s.dwellTick = s.dwellStages.carouselTick := by
  rw [State.dwellTick_eq, h]
  rfl

theorem exec_dwellTick (h : s.startup ≠ .held) : exec .dwellTick s = .next s.dwellTick := congrArg Host.Outcome.next (if_neg h)

theorem exec_minute (h : s.startup ≠ .held) : exec .minute s = .next s.minute := congrArg Host.Outcome.next (if_neg h)

theorem State.dwellStages_carouselTick_isSet {f : Flag} (hexpired : f ≠ .expired) (hcarousel : f ≠ .carousel) :
    s.dwellStages.carouselTick.events.isSet f = s.events.isSet f := by
  rw [State.carouselTick_isSet _ hcarousel, State.dwellStages_isSet, decide_eq_false (Ne.symm hexpired), Bool.and_false, Bool.or_false]

end

/-- Settles O34: stage by stage, window by window, cause by cause. -/
theorem dwellTickAgesStagesAndHolds : Obligations.DwellTickAgesStagesAndHolds := by
  intro s hs due
  have hdue : ∀ k, s.stageExpires k = true ↔ due k := fun k => State.stageExpires_iff
  have hnot : ∀ {k}, ¬ due k → s.stageExpires k = false := fun h => Bool.eq_false_iff.mpr (mt (hdue _).mp h)
  refine ⟨⟨s.dwellTick, exec_dwellTick hs, fun k => ?stages, fun h => ?windows, s.dwellTick_timebase, fun hearly => ?early,
    fun hminute => ?minute, ?expired, fun f hexpired hcarousel hstandby => ?flags, s.dwellTick_onlyRaised, by simp, by simp, by simp,
    by simp, by simp, by simp, by simp, by simp, by simp⟩, fun k => ⟨fun h => ?expires, fun h => ?stays⟩⟩
  case stages =>
    rw [State.dwellTick_stages, State.dwellStages_stage, Stage.ticked, ← State.stageExpires_eq]
    refine ⟨fun h => if_pos ((hdue k).mpr h), fun h => ?_⟩
    rw [hnot h]
    refine ⟨fun n hstage => ?_, fun hstage => ?_⟩
    · rw [hstage]
      rfl
    · cases hg : s.stages[k] with
      | empty | sealed => rfl
      | opened owner n =>
        cases owner with
        | panel => rfl
        | link => exact absurd hg (hstage n)
  case windows =>
    rw [State.dwellTick_windows]
    refine ⟨State.dwellStages_free, fun p hw => ?_, fun c v => ?_⟩
    · rw [State.dwellStages_staged hw]
      exact ⟨fun h => if_pos ((hdue _).mpr h), fun h => by rw [hnot h]; rfl⟩
    · intro aged
      have haged : v.held (s.countsHolds c.screen) = aged := by
        have hcounts := State.countsHolds_iff (s := s) (k := c.screen)
        simp only [View.held, hcounts]
        rfl
      refine ⟨fun w x hw => ?_, fun o hw => ?_⟩
      · rw [State.dwellStages_live hw, haged]
        exact ⟨fun h => if_pos ((hdue _).mpr h), fun h => by rw [hnot h]; rfl⟩
      · rw [State.dwellStages_retiring hw, haged]
  case early =>
    have hcompletes : s.timebase.dwellCompletes = false := by
      simp only [Timebase.dwellCompletes, decide_eq_false_iff_not]
      omega
    rw [State.dwellTick_noMinute hcompletes]
    exact ⟨(State.carouselTick_screens _).trans s.dwellStages_screens, State.dwellStages_carouselTick_isSet nofun nofun⟩
  case minute =>
    have hcompletes : s.timebase.dwellCompletes = true := by
      simp only [Timebase.dwellCompletes, decide_eq_true_iff]
      omega
    refine ⟨s.minute, exec_minute hs, ?_, ?_⟩
    · rw [State.dwellTick_minute hcompletes, State.dwellStages_minute_screens]
    · rw [State.dwellTick_minute hcompletes, State.minute_isSet, State.minute_isSet,
        State.dwellStages_carouselTick_isSet (f := .standby) nofun nofun,
        funext s.dwellStages_entersStandby]
  case expired =>
    rw [State.dwellTick_isSet s (by nofun), State.carouselTick_isSet _ (by nofun), State.dwellStages_isSet, Bool.or_eq_true,
      decide_eq_true rfl, Bool.and_true, any_finRange_iff]
    exact or_congr_right (exists_congr hdue)
  case flags =>
    rw [State.dwellTick_isSet s hstandby, State.dwellStages_carouselTick_isSet hexpired hcarousel]
  case expires =>
    refine ⟨(s.discardStage k).windows, ?_, s.discardStage_discardedTable k⟩
    show Host.Outcome.next (if s.stageExpires k then s.stageTick k else s) = _
    rw [if_pos ((hdue k).mpr h), State.stageTick_eq, if_pos ((hdue k).mpr h)]
    rfl
  case stays =>
    show Host.Outcome.next (if s.stageExpires k then s.stageTick k else s) = _
    rw [hnot h]
    rfl

end Sys2Proof.Machine
end

section
/-! PROOFS. The carousels' part of a dwell tick (R141, R142, R145): one TIMER carousel after another is counted down or advances, and the
cascades of the tick compose to one. -/

namespace Sys2Proof.Machine

section
variable {served : Vector Carousel 16} {counts : CarouselId → Bool} {done : List CarouselId} {g : CarouselId}

/-- The records once the carousels of a list that count, and do not advance, have counted down. -/
def countedTable (served : Vector Carousel 16) (counts : CarouselId → Bool) (done : List CarouselId) : Vector Carousel 16 :=
  mapTable
    (fun c r => if c ∈ done ∧ counts c = true ∧ 1 < r.remaining then { r with remaining := r.remaining - 1 } else r) served

/-- The carousels of a list that count down to 0 start from the records with no time left. -/
def countStart (served : Vector Carousel 16) (counts : CarouselId → Bool) (done : List CarouselId) (c : CarouselId) :
    Option Carousel :=
  if c ∈ done ∧ counts c = true ∧ served[c].remaining ≤ 1 then some { served[c] with remaining := 0 } else none

theorem countedTable_get (c : CarouselId) :
    (countedTable served counts done)[c] =
      if c ∈ done ∧ counts c = true ∧ 1 < served[c].remaining then { served[c] with remaining := served[c].remaining - 1 }
      else served[c] := mapTable_get ..

theorem countedTable_clock (c : CarouselId) : (countedTable served counts done)[c].clock = served[c].clock := by
  rw [countedTable_get]
  split <;> rfl

theorem countStart_waits (hg : g ∉ done) : countStart served counts done g = none := if_neg fun h => hg h.1

theorem countedTable_waits (hg : g ∉ done) : (countedTable served counts done)[g] = served[g] := by
  rw [countedTable_get, if_neg fun h => hg h.1]

/-- What a carousel that is looked at does not change of the others. -/
theorem countedTable_other {c : CarouselId} (hc : c ≠ g) :
    (countedTable served counts (g :: done))[c] = (countedTable served counts done)[c] := by
  rw [countedTable_get, countedTable_get]
  simp only [List.mem_cons, hc, false_or]

theorem countStart_other {c : CarouselId} (hc : c ≠ g) :
    countStart served counts (g :: done) c = countStart served counts done c := by
  simp only [countStart, List.mem_cons, hc, false_or]

/-- A carousel that does not count down by one keeps its record in the table. -/
theorem countedTable_kept (hg : g ∉ done) (h : ¬ (counts g = true ∧ 1 < served[g].remaining)) :
    countedTable served counts (g :: done) = countedTable served counts done := table_ext fun c => by
  by_cases hc : c = g
  · subst hc
    rw [countedTable_waits hg, countedTable_get, if_neg fun hall => h hall.2]
  · exact countedTable_other hc

theorem countedTable_counted (h : counts g = true ∧ 1 < served[g].remaining) :
    countedTable served counts (g :: done) =
      (countedTable served counts done).set g { served[g] with remaining := served[g].remaining - 1 } := table_ext fun c => by
  by_cases hc : c = g
  · subst hc
    rw [vector_get_set_self, countedTable_get, if_pos ⟨List.mem_cons_self .., h⟩]
  · rw [vector_get_set_ne _ _ (Ne.symm hc), countedTable_other hc]

theorem countStart_kept (hg : g ∉ done) (h : ¬ (counts g = true ∧ served[g].remaining ≤ 1)) :
    countStart served counts (g :: done) = countStart served counts done := funext fun c => by
  by_cases hc : c = g
  · subst hc
    rw [countStart_waits hg, countStart, if_neg fun hall => h hall.2]
  · exact countStart_other hc

theorem countStart_starts (hg : g ∉ done) (h : counts g = true ∧ served[g].remaining ≤ 1) :
    (fun c => (startsAt g { served[g] with remaining := 0 } c).or (countStart served counts done c)) =
      countStart served counts (g :: done) := funext fun c => by
  by_cases hc : c = g
  · subst hc
    rw [startsAt_eq_some.mpr ⟨rfl, rfl⟩, Option.some_or]
    exact (if_pos ⟨List.mem_cons_self .., h⟩).symm
  · rw [startsAt_eq_none.mpr hc, Option.none_or, countStart_other hc]

/-- What the tick has made of the carousels, those of a list looked at: the cascade so far, and CAROUSEL for its ends. -/
def State.countedDown (u : State) (present : InputId → Bool) (flag : Bool) (served : Vector Carousel 16) (counts : CarouselId → Bool)
    (done : List CarouselId) : Prop :=
  u.inputPresent = present ∧ ∃ wraps ends,
    Cascade present (countStart served counts done) (countedTable served counts done) u.carousels wraps ends ∧
    (u.events.isSet .carousel = true ↔ flag = true ∨ ∃ c, ends c)

section
variable {present : InputId → Bool} {flag : Bool} {u : State}

/-- A TIMER carousel not looked at is as its request left it. -/
theorem Cascade.timer_waits {ds : Vector Carousel 16} {wraps ends : CarouselId → Prop}
    (h : Cascade present (countStart served counts done) (countedTable served counts done) ds wraps ends) (hg : g ∉ done)
    (hclock : served[g].clock = .timer) : ds[g] = served[g] := by
  rw [(h.idle g (countStart_waits hg) ?_).1, countedTable_waits hg]
  rintro ⟨-, k, hfollow, -⟩
  rw [countedTable_clock, hclock] at hfollow
  cases hfollow

theorem State.countedDown.skip (h : u.countedDown present flag served counts done) (hg : g ∉ done) (hcounts : counts g = false) :
    u.countedDown present flag served counts (g :: done) := by
  have hno : ∀ {p : Prop}, ¬ (counts g = true ∧ p) := fun hall => nomatch hcounts.symm.trans hall.1
  rwa [State.countedDown, countStart_kept hg hno, countedTable_kept hg hno]

/-- A TIMER carousel whose remaining field does not reach 0 counts down alone. -/
theorem State.countedDown.count (h : u.countedDown present flag served counts done) (hg : g ∉ done) (hcounts : counts g = true)
    (hclock : served[g].clock = .timer) (hremaining : 1 < served[g].remaining) :
    (u.countDown g).countedDown present flag served counts (g :: done) := by
  obtain ⟨hpresent, wraps, ends, hcascade, hflag⟩ := h
  have hwaits := hcascade.timer_waits hg hclock
  have htimes : u.timesOut g = false := Bool.eq_false_iff.mpr fun ht => by
    have hle := (State.timesOut_iff.mp ht).2
    rw [hwaits] at hle
    omega
  rw [State.countDown_counts htimes, hwaits]
  refine ⟨hpresent, wraps, ends, ?_, hflag⟩
  rw [countStart_kept hg fun hall => by omega, countedTable_counted ⟨hcounts, hremaining⟩]
  exact hcascade.setTimer (countStart_waits hg) ((countedTable_clock g).trans hclock) hclock

/-- A TIMER carousel whose remaining field reaches 0 advances with its followers. -/
theorem State.countedDown.advance (h : u.countedDown present flag served counts done) (hg : g ∉ done) (hcounts : counts g = true)
    (htimers : ∀ c, counts c = true → served[c].counts = true) (hends : ∀ c : CarouselId, endsAtTimer served 16 c = true)
    (hremaining : served[g].remaining ≤ 1) : (u.countDown g).countedDown present flag served counts (g :: done) := by
  have htimer : ∀ c, counts c = true → served[c].clock = .timer := fun c hc => (Carousel.counts_iff.mp (htimers c hc)).2
  obtain ⟨hpresent, wraps, ends, hcascade, hflag⟩ := h
  have hwaits := hcascade.timer_waits hg (htimer g hcounts)
  have hclock : ∀ c : CarouselId, u.carousels[c].clock = (countedTable served counts done)[c].clock :=
    hcascade.keeps Carousel.clock (fun r => r.advance_clock present) fun c r hr => by
      rw [countedTable_clock]
      unfold countStart at hr
      split at hr
      · cases hr
        rfl
      · cases hr
  have hends' : ∀ c : CarouselId, endsAtTimer (countedTable served counts done) 16 c = true := fun c =>
    (endsAtTimer_congr countedTable_clock 16 c).trans (hends c)
  have htimes : u.timesOut g = true := State.timesOut_iff.mpr ⟨by rw [hwaits]; exact htimers g hcounts, by rwa [hwaits]⟩
  obtain ⟨cs, e, wraps', ends', hcount, hlater, hraised, hquiet⟩ :=
    State.countDown_cascade (fun c => (endsAtTimer_congr hclock 16 c).trans (hends' c)) htimes
  rw [hwaits, hpresent] at hlater
  have hboth := hcascade.compose hlater hends' hclock fun c x m hcx hx hcm => by
    obtain rfl : x = g := by
      by_contra hne
      exact hx (startsAt_eq_none.mpr hne)
    rw [countStart]
    refine if_neg fun hall => ?_
    have hstop : ∀ {a b}, counts a = true → Relation.ReflTransGen (followsCarousel (countedTable served counts done)) a b → a = b := by
      intro a b ha hab
      rcases Relation.ReflTransGen.cases_head hab with heq | ⟨q, hq, -⟩
      · exact heq
      · rw [followsCarousel, countedTable_clock, htimer a ha] at hq
        cases hq
    rcases Relation.ReflTransGen.total_of_right_unique followsCarousel_unique hcx hcm with hreach | hreach
    · exact hg (hstop hcounts hreach ▸ hall.1)
    · exact hg (hstop hall.2.1 hreach ▸ hall.1)
  rw [countStart_starts hg ⟨hcounts, hremaining⟩] at hboth
  rw [hcount]
  refine ⟨hpresent, fun c => wraps c ∨ wraps' c, fun c => ends c ∨ ends' c, ?_, ?_⟩
  · rwa [countedTable_kept hg fun hall => by omega]
  · show e.isSet .carousel = true ↔ _
    by_cases hended : ∃ k, ends' k
    · rw [hraised hended, EventUnit.raise_isSet, decide_eq_true rfl, Bool.or_true]
      exact iff_of_true rfl (.inr (hended.imp fun _ => Or.inr))
    · rw [hquiet hended, hflag]
      refine or_congr_right (exists_congr fun c => (or_iff_left fun hc => hended ⟨c, hc⟩).symm)

end

theorem State.carouselTick_countedDown {v : State} (hends : ∀ c : CarouselId, endsAtTimer v.carousels 16 c = true) :
    v.carouselTick.countedDown v.inputPresent (v.events.isSet .carousel) v.applyRequests.carousels
      (fun c => v.carousels[c].counts && v.applyRequests.carousels[c].counts) (List.finRange 16).reverse := by
  have htimers : ∀ c : CarouselId, (v.carousels[c].counts && v.applyRequests.carousels[c].counts) = true →
      v.applyRequests.carousels[c].counts = true := fun c hc => (Bool.and_eq_true_iff.mp hc).2
  have hfold : ∀ (l done : List CarouselId) (u : State), (l ++ done).Nodup →
      u.countedDown v.inputPresent (v.events.isSet .carousel) v.applyRequests.carousels
        (fun c => v.carousels[c].counts && v.applyRequests.carousels[c].counts) done →
      (l.foldl (fun u c => if v.carousels[c].counts && v.applyRequests.carousels[c].counts then u.countDown c else u) u).countedDown
        v.inputPresent (v.events.isSet .carousel) v.applyRequests.carousels
        (fun c => v.carousels[c].counts && v.applyRequests.carousels[c].counts) (l.reverse ++ done) := by
    intro l
    induction l with
    | nil => exact fun done u _ h => h
    | cons g l ih =>
      intro done u hnodup h
      have hg : g ∉ done := fun hmem => (List.nodup_cons.mp hnodup).1 (List.mem_append_right _ hmem)
      have hnext : (l ++ g :: done).Nodup := (List.perm_middle.nodup_iff).mpr hnodup
      rw [List.foldl_cons, List.reverse_cons, List.append_assoc, List.singleton_append]
      refine ih (g :: done) _ hnext ?_
      split
      · rename_i hcounts
        rcases Nat.lt_or_ge 1 v.applyRequests.carousels[g].remaining with hremaining | hremaining
        · exact h.count hg hcounts (Carousel.counts_iff.mp (htimers g hcounts)).2 hremaining
        · exact h.advance hg hcounts htimers (State.applyRequests_ends hends) hremaining
      · rename_i hcounts
        exact h.skip hg (Bool.eq_false_iff.mpr hcounts)
  have hstart : v.applyRequests.countedDown v.inputPresent (v.events.isSet .carousel) v.applyRequests.carousels
      (fun c => v.carousels[c].counts && v.applyRequests.carousels[c].counts) [] := by
    have hcascade := Cascade.unstarted v.applyRequests.carousels v.inputPresent
    refine ⟨rfl, fun _ => False, fun _ => False, ?_, by simp [State.applyRequests]⟩
    have htable : countedTable v.applyRequests.carousels
        (fun c => v.carousels[c].counts && v.applyRequests.carousels[c].counts) [] = v.applyRequests.carousels :=
      table_ext fun c => countedTable_waits (by simp)
    have hnone : countStart v.applyRequests.carousels (fun c => v.carousels[c].counts && v.applyRequests.carousels[c].counts) [] =
        fun _ => none := funext fun c => countStart_waits (by simp)
    rw [htable, hnone]
    exact hcascade
  have hall := hfold (List.finRange 16) [] v.applyRequests (by simpa using List.nodup_finRange 16) hstart
  rwa [List.append_nil] at hall

end

section
variable {s : State} {c : CarouselId}

theorem Carousel.applyRequest_keeps (r : Carousel) :
    r.applyRequest.request = .none ∧ r.applyRequest.mode = r.mode ∧ r.applyRequest.skipAbsent = r.skipAbsent ∧
      r.applyRequest.clock = r.clock ∧ r.applyRequest.entries = r.entries := by
  unfold Carousel.applyRequest Carousel.goTo
  split <;> exact ⟨rfl, rfl, rfl, rfl, rfl⟩

/-- The carousel was RUNNING with clock TIMER before the tick, and its request leaves it so (R142). -/
def State.countsDown (s : State) (c : CarouselId) : Bool := s.carousels[c].counts && s.applyRequests.carousels[c].counts

theorem State.countsDown_iff :
    s.countsDown c = true ↔
      s.carousels[c].state = .running ∧ s.applyRequests.carousels[c].state = .running ∧ s.carousels[c].clock = .timer := by
  rw [State.countsDown, Bool.and_eq_true, Carousel.counts_iff, Carousel.counts_iff, State.applyRequests_get,
    Carousel.applyRequest_clock]
  exact ⟨fun ⟨⟨ha, hb⟩, hc, _⟩ => ⟨ha, hc, hb⟩, fun ⟨ha, hc, hb⟩ => ⟨⟨ha, hb⟩, hc, hb⟩⟩

/-- A dwell tick as one cascade (R141, R142, R145). -/
theorem State.dwellTick_cascade (hends : ∀ k : CarouselId, endsAtTimer s.carousels 16 k = true) :
    ∃ wraps ends,
      Cascade s.inputPresent (countStart s.applyRequests.carousels s.countsDown (List.finRange 16).reverse)
        (countedTable s.applyRequests.carousels s.countsDown (List.finRange 16).reverse) s.dwellTick.carousels wraps ends ∧
      (s.dwellTick.events.isSet .carousel = true ↔ s.events.isSet .carousel = true ∨ ∃ k, ends k) := by
  have hserved : s.dwellStages.applyRequests.carousels = s.applyRequests.carousels := by
    rw [State.applyRequests, State.applyRequests, s.dwellStages_carousels]
  have hpresent : s.dwellStages.inputPresent = s.inputPresent := funext fun i => by
    rw [State.inputPresent, State.inputPresent, s.dwellStages_inputs]
  have hflag : s.dwellStages.events.isSet .carousel = s.events.isSet .carousel := by
    rw [State.dwellStages_isSet, decide_eq_false (by nofun), Bool.and_false, Bool.or_false]
  obtain ⟨-, wraps, ends, hcascade, hset⟩ := State.carouselTick_countedDown (v := s.dwellStages) (by rwa [s.dwellStages_carousels])
  simp only [hserved, s.dwellStages_carousels, hpresent] at hcascade
  rw [hflag] at hset
  rw [State.dwellTick_carousels, State.dwellTick_isSet s (by nofun)]
  exact ⟨wraps, ends, hcascade, hset⟩

section
variable {wraps ends : CarouselId → Prop} {ds : Vector Carousel 16}
variable (h : Cascade s.inputPresent (countStart s.applyRequests.carousels s.countsDown (List.finRange 16).reverse)
  (countedTable s.applyRequests.carousels s.countsDown (List.finRange 16).reverse) ds wraps ends)
include h

/-- A carousel that neither counts nor can follow is as its request left it. -/
theorem State.served_rests (hcounts : s.countsDown c = false)
    (hfollows : s.applyRequests.carousels[c].state ≠ .running ∨ s.carousels[c].clock = .timer) :
    ds[c] = s.carousels[c].applyRequest := by
  have htable : (countedTable s.applyRequests.carousels s.countsDown (List.finRange 16).reverse)[c] = s.carousels[c].applyRequest := by
    rw [countedTable_get, if_neg fun hall => Bool.eq_false_iff.mp hcounts hall.2.1, State.applyRequests_get]
  refine (h.idle c (if_neg fun hall => Bool.eq_false_iff.mp hcounts hall.2.1) ?_).1.trans htable
  rintro ⟨hrun, k, hfollow, -⟩
  rw [htable] at hrun hfollow
  rw [State.applyRequests_get] at hfollows
  rcases hfollows with hstate | hclock
  · exact hstate hrun
  · rw [Carousel.applyRequest_clock, hclock] at hfollow
    cases hfollow

theorem State.served_counts (hcounts : s.countsDown c = true) (hremaining : 1 < s.applyRequests.carousels[c].remaining) :
    ds[c] = { s.carousels[c].applyRequest with remaining := s.carousels[c].applyRequest.remaining - 1 } := by
  have htable : (countedTable s.applyRequests.carousels s.countsDown (List.finRange 16).reverse)[c] =
      { s.carousels[c].applyRequest with remaining := s.carousels[c].applyRequest.remaining - 1 } := by
    rw [countedTable_get, if_pos ⟨by simp, hcounts, hremaining⟩, State.applyRequests_get]
  refine (h.idle c (if_neg fun hall => by omega) ?_).1.trans htable
  rintro ⟨-, k, hfollow, -⟩
  rw [countedTable_clock, State.applyRequests_get, Carousel.applyRequest_clock, (State.countsDown_iff.mp hcounts).2.2] at hfollow
  cases hfollow

theorem State.served_advances (hcounts : s.countsDown c = true) (hremaining : s.applyRequests.carousels[c].remaining = 1) :
    ds[c] = (({ s.carousels[c].applyRequest with remaining := 0 } : Carousel).advance s.inputPresent).1 := by
  refine (h.starts c _ ?_).1
  rw [countStart, if_pos ⟨by simp, hcounts, hremaining.le⟩, State.applyRequests_get]

theorem State.served_keeps {α : Type} (f : Carousel → α) (hadvance : ∀ r : Carousel, f (r.advance s.inputPresent).1 = f r)
    (hremaining : ∀ (r : Carousel) (n : Nat), f { r with remaining := n } = f r) : f ds[c] = f s.carousels[c].applyRequest := by
  have htable : ∀ k : CarouselId, f (countedTable s.applyRequests.carousels s.countsDown (List.finRange 16).reverse)[k] =
      f s.applyRequests.carousels[k] := fun k => by
    rw [countedTable_get]
    split
    · exact hremaining _ _
    · rfl
  rw [h.keeps f hadvance (fun k r hr => ?_) c, htable, State.applyRequests_get]
  rw [countStart] at hr
  split at hr
  · cases hr
    rw [hremaining, htable]
  · cases hr

end

end

/-- Settles O55: the cascade of the tick, then each carousel by its request, its state and its clock. -/
theorem dwellTickServesTheCarousels : Obligations.DwellTickServesTheCarousels := by
  intro s hs hlaw
  obtain ⟨wraps, ends, h, hflag⟩ := State.dwellTick_cascade fun k => (hlaw k).2
  refine ⟨s.dwellTick, exec_dwellTick hs, ⟨s.applyRequests.carousels, _, _, ∃ k, ends k, fun c => ?_, h.cascadesTo Iff.rfl, hflag⟩,
    fun c => ?_⟩
  · intro counts
    have hcounts : s.countsDown c = true ↔ counts := State.countsDown_iff
    refine ⟨?_, fun hno => ⟨?_, ?_⟩, fun hyes hremaining => ⟨?_, ?_⟩, fun hyes hremaining => ⟨?_, ?_⟩⟩
    · rw [State.applyRequests_get]
      exact Carousel.applyRequest_serves _
    · rw [countedTable_get, if_neg fun hall => hno (hcounts.mp hall.2.1)]
    · exact if_neg fun hall => hno (hcounts.mp hall.2.1)
    · rw [countedTable_get, if_pos ⟨by simp, hcounts.mpr hyes, hremaining⟩]
    · exact if_neg fun hall => by omega
    · rw [countedTable_get, if_neg fun hall => by omega]
    · exact if_pos ⟨by simp, hcounts.mpr hyes, hremaining.le⟩
  · intro old
    have hserves : old.servesRequest old.applyRequest := old.applyRequest_serves
    obtain ⟨hquiet, hstart, hrestart, hstop⟩ := hserves
    have hserved : s.applyRequests.carousels[c] = old.applyRequest := s.applyRequests_get c
    have hrests : old.state ≠ .running ∨ old.request = .stop → old.applyRequest.state ≠ .running ∨ old.clock = .timer →
        s.dwellTick.carousels[c] = old.applyRequest := fun hno hfollows => by
      refine State.served_rests h (Bool.eq_false_iff.mpr fun hcounts => ?_) (by rwa [hserved])
      obtain ⟨hstate, hrun, -⟩ := State.countsDown_iff.mp hcounts
      rw [hserved] at hrun
      rcases hno with hno | hno
      · exact hno hstate
      · rw [hstop (by rw [show old.state = _ from hstate]; nofun) hno] at hrun
        cases hrun
    obtain ⟨hrequest, hmode, hskip, hclock, hentries⟩ := old.applyRequest_keeps
    refine ⟨?_, ⟨?_, ?_, ?_, ?_⟩, fun hstate hreq => ?_, fun hstate hreq => ?_, fun htimer => ⟨fun hstate hreq => ?_,
      fun e he hstate hreq => ?_, fun hstate hreq => ⟨fun hremaining => ?_, fun hremaining => ?_⟩⟩⟩
    · exact (State.served_keeps h Carousel.request (fun r => by rw [r.advance_frame]) fun _ _ => rfl).trans hrequest
    · exact (State.served_keeps h Carousel.mode (fun r => by rw [r.advance_frame]) fun _ _ => rfl).trans hmode
    · exact (State.served_keeps h Carousel.skipAbsent (fun r => by rw [r.advance_frame]) fun _ _ => rfl).trans hskip
    · exact (State.served_keeps h Carousel.clock (fun r => by rw [r.advance_frame]) fun _ _ => rfl).trans hclock
    · exact (State.served_keeps h Carousel.entries (fun r => by rw [r.advance_frame]) fun _ _ => rfl).trans hentries
    · have heq := hquiet (hreq.imp id .inr)
      exact (hrests (.inl hstate) (.inl (by rw [heq]; exact hstate))).trans heq
    · have heq := hstop hstate hreq
      exact (hrests (.inr hreq) (.inl (by rw [heq]; nofun))).trans heq
    · exact (hrests (.inl (by rw [hstate]; nofun)) (.inr htimer)).trans (hstart hstate hreq)
    · exact (hrests (.inl (by rw [hstate]; nofun)) (.inr htimer)).trans (hrestart e hstate hreq he)
    all_goals
      have heq : old.applyRequest = { old with request := .none } := Carousel.applyRequest_running hstate hreq
      have hcounts : s.countsDown c = true := State.countsDown_iff.mpr ⟨hstate, by rw [hserved, heq]; exact hstate, htimer⟩
    · refine (State.served_counts h hcounts (by rw [hserved, heq]; exact hremaining)).trans ?_
      rw [show s.carousels[c].applyRequest = _ from heq]
    · refine (State.served_advances h hcounts (by rw [hserved, heq]; exact hremaining)).trans ?_
      rw [show s.carousels[c].applyRequest = _ from heq]

end Sys2Proof.Machine
end

section
/-! PROOFS. Scenes as they are stored and captured (R152 to R154). -/

namespace Sys2Proof.Machine

/-! ### STORE SCENE -/

section
variable {covered : Byte} {rs : List (List Byte)} {ks : List ScreenId}

theorem entryScreens_of_covered (h : ∀ r ∈ rs, ∃ k, coveredScreen covered r = some k) : ∃ ks, entryScreens covered rs = some ks := by
  induction rs with
  | nil => exact ⟨[], rfl⟩
  | cons r rs ih =>
    obtain ⟨k, hk⟩ := h r (List.mem_cons_self ..)
    obtain ⟨ks, hks⟩ := ih fun q hq => h q (List.mem_cons_of_mem _ hq)
    exact ⟨k :: ks, by simp only [entryScreens, hk, hks]⟩

/-- The first entry that fails its tests gives the result (R152 test 4). -/
theorem entryFields_eq_error (hks : List.Forall₂ (fun r k => coveredScreen covered r = some k) rs ks) {j : Nat} {r : List Byte}
    {k : ScreenId} {code : ResultCode} (hr : rs[j]? = some r) (hk : coveredScreen covered r = some k)
    (hcode : recordFields k r = .error code)
    (hbefore : ∀ g q m, g < j → rs[g]? = some q → coveredScreen covered q = some m → ∃ f, recordFields m q = .ok f) :
    entryFields ks rs = .error code := by
  induction hks generalizing j with
  | nil => simp at hr
  | @cons q m rs ks hm _ ih =>
    cases j with
    | zero =>
      cases hr
      cases hm.symm.trans hk
      simp only [entryFields, hcode]
    | succ j =>
      obtain ⟨f, hf⟩ := hbefore 0 q m (Nat.succ_pos j) rfl hm
      have hrest := ih (j := j) hr fun g p n hg hp => hbefore (g + 1) p n (Nat.succ_lt_succ hg) hp
      simp only [entryFields, hf, hrest]

theorem entryFields_of_ok (hks : List.Forall₂ (fun r k => coveredScreen covered r = some k) rs ks)
    (h : ∀ r ∈ rs, ∀ k, coveredScreen covered r = some k → ∃ f, recordFields k r = .ok f) : ∃ fs, entryFields ks rs = .ok fs := by
  induction hks with
  | nil => exact ⟨[], rfl⟩
  | @cons r k rs ks hk _ ih =>
    obtain ⟨f, hf⟩ := h r (List.mem_cons_self ..) k hk
    obtain ⟨fs, hfs⟩ := ih fun q hq => h q (List.mem_cons_of_mem _ hq)
    exact ⟨f :: fs, by simp only [entryFields, hf, hfs]⟩

end

section
variable {args : List Byte} {s : State}

/-- The 34 bytes of entry j of a STORE SCENE. -/
def sceneRecord (args : List Byte) (j : Nat) : List Byte := (args.drop (3 + 34 * j)).take 34

theorem sceneRecord_eq {n j : Nat} (hj : j < n) : (recordsOf (args.drop 3) n)[j]? = some (sceneRecord args j) := by
  rw [recordsOf_getElem? hj, List.drop_drop, sceneRecord]

theorem mem_sceneRecords {n : Nat} {r : List Byte} : r ∈ recordsOf (args.drop 3) n ↔ ∃ j, j < n ∧ sceneRecord args j = r := by
  rw [List.mem_iff_getElem?]
  refine exists_congr fun j => ?_
  rcases Nat.lt_or_ge j n with hj | hj
  · rw [sceneRecord_eq hj, Option.some_inj]
    exact (and_iff_right hj).symm
  · rw [List.getElem?_eq_none (by rw [recordsOf_length]; exact hj)]
    exact iff_of_false nofun fun h => absurd h.1 (Nat.not_lt.mpr hj)

theorem storeScene_badArgument
    (h : 16 ≤ num args 0 ∨ 16 < num args 2 ∨ ∃ j, j < num args 2 ∧ ¬ ∃ k, coveredScreen (arg args 1) (sceneRecord args j) = some k) :
    storeScene args s = refuse .badArgument s := by
  unfold storeScene
  split
  · rfl
  · rename_i n hn
    split
    · rfl
    · rename_i hcount
      dsimp only
      split
      · rfl
      · rename_i screens hscreens
        rcases h with h | h | ⟨j, hj, hno⟩
        · cases (ident_eq_none.mpr h).symm.trans hn
        · exact absurd h hcount
        · have hall := entryScreens_eq_some hscreens
          have hget := sceneRecord_eq (args := args) hj
          obtain ⟨hlt, hrecord⟩ := List.getElem?_eq_some_iff.mp hget
          have hcovered := hall.get hlt (by rw [← hall.length_eq]; exact hlt)
          rw [List.get_eq_getElem, hrecord] at hcovered
          exact absurd ⟨_, hcovered⟩ hno

/-- STORE SCENE past the tests of number, count and screens (R152). -/
theorem storeScene_covered {n : SceneId} (hn : num args 0 = n.val) (hcount : num args 2 ≤ 16)
    (h : ∀ j, j < num args 2 → ∃ k, coveredScreen (arg args 1) (sceneRecord args j) = some k) :
    ∃ ks, List.Forall₂ (fun r k => coveredScreen (arg args 1) r = some k) (recordsOf (args.drop 3) (num args 2)) ks ∧
      (∀ code, entryFields ks (recordsOf (args.drop 3) (num args 2)) = .error code → storeScene args s = refuse code s) ∧
      ∀ fs, entryFields ks (recordsOf (args.drop 3) (num args 2)) = .ok fs →
        storeScene args s = reply [] (s.setScene n ⟨arg args 1, fs⟩) := by
  obtain ⟨ks, hks⟩ := entryScreens_of_covered (covered := arg args 1) (rs := recordsOf (args.drop 3) (num args 2)) fun r hr => by
    obtain ⟨j, hj, rfl⟩ := mem_sceneRecords.mp hr
    exact h j hj
  have hfew : ¬ Config.maxSceneEntries < num args 2 := Nat.not_lt.mpr hcount
  refine ⟨ks, entryScreens_eq_some hks, fun code hcode => ?_, fun fs hfs => ?_⟩
  · simp only [storeScene, ident_eq_some.mpr hn, if_neg hfew, hks, hcode]
  · simp only [storeScene, ident_eq_some.mpr hn, if_neg hfew, hks, hfs]

end

/-! ### CAPTURE SCENE -/

section
variable {s : State} {k : ScreenId} {h : Handle} {screens : Byte}

theorem Window.liveCopy_of_captured {w : Window} {c : WindowFields} (h : w.captured = some c) : w.liveCopy = some c := by
  obtain ⟨p, v, x, rfl, -⟩ := Window.captured_eq_some.mp h
  rfl

/-- The handles whose windows CAPTURE SCENE gathers on screen k. -/
def State.capturedScreen (s : State) (k : ScreenId) : List Handle := (s.screenList k).filter fun h => s.windows[h].captured.isSome

/-- The handles whose windows CAPTURE SCENE gathers, in its order (R154). -/
def State.capturedHandles (s : State) (screens : Byte) : List Handle :=
  (List.finRange 8).flatMap fun (k : ScreenId) => if screens.getLsbD k then s.capturedScreen k else []

theorem State.mem_capturedScreen :
    h ∈ s.capturedScreen k ↔ ∃ c w v x, s.windows[h] = .live c w v x ∧ w ≠ .retire ∧ c.pinned = false ∧ c.screen = k := by
  rw [State.capturedScreen, List.mem_filter, State.mem_screenList, Option.isSome_iff_exists]
  constructor
  · rintro ⟨hscreen, c, hc⟩
    obtain ⟨w, v, x, hw, hretire, hpinned⟩ := Window.captured_eq_some.mp hc
    rw [hw] at hscreen
    exact ⟨c, w, v, x, hw, hretire, hpinned, Option.some.inj hscreen⟩
  · rintro ⟨c, w, v, x, hw, hretire, hpinned, rfl⟩
    exact ⟨by rw [hw]; rfl, c, Window.captured_eq_some.mpr ⟨w, v, x, hw, hretire, hpinned⟩⟩

theorem State.mem_capturedHandles :
    h ∈ s.capturedHandles screens ↔
      ∃ c w v x, s.windows[h] = .live c w v x ∧ w ≠ .retire ∧ c.pinned = false ∧ screens.getLsbD c.screen = true := by
  rw [State.capturedHandles, List.mem_flatMap]
  constructor
  · rintro ⟨k, -, hmem⟩
    split at hmem
    · rename_i hk
      obtain ⟨c, w, v, x, hw, hretire, hpinned, rfl⟩ := State.mem_capturedScreen.mp hmem
      exact ⟨c, w, v, x, hw, hretire, hpinned, hk⟩
    · cases hmem
  · rintro ⟨c, w, v, x, hw, hretire, hpinned, hk⟩
    refine ⟨c.screen, List.mem_finRange _, ?_⟩
    rw [if_pos hk]
    exact State.mem_capturedScreen.mpr ⟨c, w, v, x, hw, hretire, hpinned, rfl⟩

/-- The copies gathered are the live copies of these windows. -/
theorem State.gatherScreen_eq (s : State) (k : ScreenId) :
    (s.gatherScreen k).map some = (s.capturedScreen k).map fun h => s.windows[h].liveCopy := by
  rw [State.gatherScreen, State.capturedScreen]
  induction s.screenList k with
  | nil => rfl
  | cons h l ih =>
    cases hc : s.windows[h].captured with
    | none => rw [List.filterMap_cons_none (f := fun h : Handle => s.windows[h].captured) hc, List.filter_cons_of_neg (by rw [hc]; nofun), ih]
    | some c =>
      rw [List.filterMap_cons_some (f := fun h : Handle => s.windows[h].captured) hc, List.filter_cons_of_pos (by rw [hc]; rfl), List.map_cons, List.map_cons, ih,
        Window.liveCopy_of_captured hc]

theorem State.gather_eq (s : State) (screens : Byte) :
    (s.gather screens).map some = (s.capturedHandles screens).map fun h => s.windows[h].liveCopy := by
  rw [State.gather, State.capturedHandles, List.map_flatMap, List.map_flatMap]
  congr 1
  funext k
  split
  · exact s.gatherScreen_eq k
  · rfl

theorem State.gather_length (s : State) (screens : Byte) : (s.gather screens).length = (s.capturedHandles screens).length := by
  simpa using congrArg List.length (s.gather_eq screens)

theorem Window.layer_of_liveCopy {w : Window} {c : WindowFields} (h : w.liveCopy = some c) : w.listLayer = some c.layer := by
  cases w with
  | free | staged => cases h
  | live | retiring =>
    cases h
    rfl

/-- The order in which the windows are gathered: screen, then stacking key (R154). -/
theorem State.capturedHandles_order (s : State) (screens : Byte) :
    (s.capturedHandles screens).Pairwise fun g h => ∀ c d, s.windows[g].liveCopy = some c → s.windows[h].liveCopy = some d →
      c.screen < d.screen ∨ c.screen = d.screen ∧ stacksBelow (c.layer, g) (d.layer, h) := by
  have hscreen : ∀ {k h c}, h ∈ (if screens.getLsbD (k : ScreenId).val then s.capturedScreen k else []) →
      s.windows[h].liveCopy = some c → c.screen = k := by
    intro k h c hmem hc
    split at hmem
    · obtain ⟨d, w, v, x, hw, -, -, rfl⟩ := State.mem_capturedScreen.mp hmem
      rw [hw] at hc
      cases hc
      rfl
    · cases hmem
  refine List.pairwise_flatMap.mpr ⟨fun k _ => ?_, (List.pairwise_lt_finRange 8).imp fun {k m} hkm g hg h hh c d hc hd => ?_⟩
  · refine List.Pairwise.imp_of_mem (S := fun g h => _) ?_
      (R := fun g h => ∀ m n, s.windows[g].listLayer = some m → s.windows[h].listLayer = some n → stacksBelow (m, g) (n, h)) ?_
    · intro g h hg hh hlayers c d hc hd
      exact .inr ⟨(hscreen hg hc).trans (hscreen hh hd).symm,
        hlayers _ _ (Window.layer_of_liveCopy hc) (Window.layer_of_liveCopy hd)⟩
    · split
      · exact (s.screenList_pairwise k).filter _
      · exact List.Pairwise.nil
  · rw [hscreen hg hc, hscreen hh hd]
    exact .inl hkm

theorem captureScene_badArgument {args : List Byte} (h : 16 ≤ num args 0) : captureScene args s = refuse .badArgument s := by
  simp only [captureScene, ident_eq_none.mpr h]

theorem captureScene_named {args : List Byte} {n : SceneId} (h : num args 0 = n.val) :
    captureScene args s =
      if 16 < (s.gather (arg args 1)).length then refuse .sceneFull s
      else reply [byte (s.gather (arg args 1)).length] (s.setScene n ⟨arg args 1, s.gather (arg args 1)⟩) := by
  simp only [captureScene, ident_eq_some.mpr h]
  rfl

end

/-- Settles O56: STORE SCENE by its tests, entry by entry; CAPTURE SCENE by the handles it gathers. -/
theorem scenesAreStoredAndCaptured : Obligations.ScenesAreStoredAndCaptured := by
  refine ⟨?stores, fun b screens s hs => ?captures⟩
  case stores =>
    intro args s hs hcount record covered
    have hrow : ∀ {code fields t}, storeScene args s = ⟨code, fields, t⟩ →
        exec (.storeScene args) s = .next (t.answers args.length code fields) :=
      fun ha => exec_answers (op := .storeScene) hcount hs ha
    have hcovered : ∀ j, covered j ↔ ∃ k, coveredScreen (arg args 1) (sceneRecord args j) = some k := fun j =>
      exists_congr fun k => coveredScreen_eq_some.symm
    refine ⟨fun hbad => hrow (storeScene_badArgument ?_), fun n hn hfew hall => ?_⟩
    · refine hbad.imp id (Or.imp id ?_)
      rintro ⟨j, hj, hno⟩
      exact ⟨j, hj, mt (hcovered j).mpr hno⟩
    · obtain ⟨ks, hks, herror, hok⟩ := storeScene_covered (s := s) hn hfew fun j hj => (hcovered j).mp (hall j hj)
      refine ⟨fun j k code hj hk hcode hbefore => hrow (herror code ?_), fun hfields => ?_⟩
      · obtain ⟨m, hm⟩ := (hcovered j).mp (hall j hj)
        obtain ⟨hnum, -⟩ := coveredScreen_eq_some.mp hm
        obtain rfl : k = m := Fin.ext (hk.symm.trans hnum)
        refine entryFields_eq_error hks (sceneRecord_eq hj) hm hcode fun g q p hg hq hp => ?_
        rw [sceneRecord_eq (hg.trans hj)] at hq
        cases hq
        exact hbefore g p hg (coveredScreen_eq_some.mp hp).1
      · obtain ⟨fs, hfs⟩ := entryFields_of_ok hks fun r hr k hk => by
          obtain ⟨j, hj, rfl⟩ := mem_sceneRecords.mp hr
          exact hfields j k hj (coveredScreen_eq_some.mp hk).1
        have heach := entryFields_eq_ok hks hfs
        refine ⟨fs, hrow (hok fs hfs), by rw [← heach.length_eq, recordsOf_length], fun j f hf => ?_⟩
        obtain ⟨hlt, hget⟩ := List.getElem?_eq_some_iff.mp hf
        have hj : j < num args 2 := by rwa [← heach.length_eq, recordsOf_length] at hlt
        obtain ⟨hlt', hrecord⟩ := List.getElem?_eq_some_iff.mp (sceneRecord_eq (args := args) hj)
        obtain ⟨k, hk, hfields⟩ := heach.get hlt' hlt
        rw [List.get_eq_getElem, hrecord] at hk hfields
        rw [List.get_eq_getElem, hget] at hfields
        exact ⟨k, (coveredScreen_eq_some.mp hk).1, hfields⟩
  case captures =>
    have hrow : ∀ {code fields t}, captureScene [b, screens] s = ⟨code, fields, t⟩ →
        exec (.captureScene [b, screens]) s = .next (t.answers 2 code fields) :=
      fun ha => exec_answers (op := .captureScene) (args := [b, screens]) rfl hs ha
    refine ⟨fun hbad => hrow (captureScene_badArgument hbad), fun n hb => ?_⟩
    have hn : num [b, screens] 0 = n.val := hb
    have hnamed := captureScene_named (s := s) hn
    refine ⟨s.capturedHandles screens, s.gather screens, fun h => State.mem_capturedHandles, s.capturedHandles_order screens,
      s.gather_eq screens, fun hmany => hrow (hnamed.trans (if_pos ?_)), fun hfew => hrow ?_⟩
    · exact (s.gather_length screens).symm ▸ hmany
    · rw [← s.gather_length screens] at hfew ⊢
      exact hnamed.trans (if_neg (Nat.not_lt.mpr hfew))

end Sys2Proof.Machine
end

section
/-! PROOFS. A recall by either party (R156 to R158): the handles it takes, the windows it marks, the entries it places. -/

namespace Sys2Proof.Machine

/-! ### The FREE handles, and entries placed on them -/

section
variable {s : State} {h : Handle}

/-- The FREE handles in ascending number. -/
def State.freeHandles (s : State) : List Handle := (List.finRange 64).filter fun h => s.windows[h].isFree

theorem State.mem_freeHandles : h ∈ s.freeHandles ↔ s.windows[h] = .free := by
  rw [State.freeHandles, List.mem_filter, Window.isFree_iff]
  exact and_iff_right (List.mem_finRange h)

theorem State.free_of_getElem? {m : Nat} (hm : s.freeHandles[m]? = some h) : s.windows[h] = .free :=
  State.mem_freeHandles.mp (List.mem_of_getElem? hm)

theorem State.freeHandles_ascend (s : State) : s.freeHandles.Pairwise (· < ·) := (List.pairwise_lt_finRange 64).filter _

theorem State.freeHandles_length (s : State) : s.freeHandles.length = s.freeCount := rfl

theorem State.lowestFree_eq (s : State) : s.lowestFree = s.freeHandles.head? := List.head?_filter.symm

theorem State.freeHandles_congr {t : State} (hsame : ∀ g : Handle, t.windows[g].isFree = s.windows[g].isFree) :
    t.freeHandles = s.freeHandles := List.filter_congr fun g _ => hsame g

/-- An entry goes to the first of the FREE handles. -/
theorem State.freeHandles_placeEntry (s : State) (f : WindowFields) : (s.placeEntry f).freeHandles = s.freeHandles.tail := by
  rw [State.placeEntry, State.lowestFree_eq]
  cases hfree : s.freeHandles with
  | nil => exact hfree
  | cons g rest =>
    have hascend := hfree ▸ s.freeHandles_ascend
    have hrest : ∀ x ∈ rest, x ≠ g := fun x hx heq => absurd ((List.pairwise_cons.mp hascend).1 x hx) (heq ▸ lt_irrefl x)
    have hset : (s.setWindow g (.staged f)).freeHandles = s.freeHandles.filter (· ≠ g) := by
      rw [State.freeHandles, State.freeHandles, List.filter_filter]
      refine List.filter_congr fun x _ => ?_
      have hx : (s.setWindow g (.staged f)).windows[x] = if g = x then .staged f else s.windows[x] := vector_get_set ..
      rw [hx]
      by_cases hgx : g = x
      · subst hgx
        simp [Window.isFree]
      · simp [hgx, Ne.symm hgx]
    show (s.setWindow g (.staged f)).freeHandles = rest
    rw [hset, hfree, List.filter_cons_of_neg (by simp), List.filter_eq_self]
    exact fun x hx => decide_eq_true (hrest x hx)

theorem State.placeEntry_window (s : State) (f : WindowFields) (h : Handle) :
    (s.placeEntry f).windows[h] = if s.freeHandles.head? = some h then .staged f else s.windows[h] := by
  rw [State.placeEntry, State.lowestFree_eq]
  cases hfree : s.freeHandles.head? with
  | none => rfl
  | some g =>
    have hget : (s.setWindow g (.staged f)).windows[h] = if g = h then .staged f else s.windows[h] := vector_get_set ..
    exact hget.trans (if_congr Option.some_inj.symm rfl rfl)

/-- What entries placed on the FREE handles of a table make of it. -/
def placesOn (s t : State) (fs : List WindowFields) : Prop :=
  (∀ h : Handle, s.windows[h] ≠ .free → t.windows[h] = s.windows[h]) ∧
  ∀ (m : Nat) (h : Handle), s.freeHandles[m]? = some h →
    (∀ f, fs[m]? = some f → t.windows[h] = .staged f) ∧ (fs[m]? = none → t.windows[h] = .free)

theorem State.foldl_placeEntry (fs : List WindowFields) (s : State) :
    (fs.foldl State.placeEntry s).freeHandles = s.freeHandles.drop fs.length ∧ placesOn s (fs.foldl State.placeEntry s) fs := by
  induction fs generalizing s with
  | nil => exact ⟨rfl, fun _ _ => rfl, fun m h hm => ⟨nofun, fun _ => State.free_of_getElem? hm⟩⟩
  | cons f fs ih =>
    obtain ⟨hdrop, hkeep, hplaced⟩ := ih (s.placeEntry f)
    rw [s.freeHandles_placeEntry f] at hdrop hplaced
    refine ⟨?_, fun h hh => ?_, fun m h hm => ?_⟩
    · rw [List.foldl_cons, hdrop, List.drop_tail, List.length_cons]
    · have hsame : (s.placeEntry f).windows[h] = s.windows[h] := by
        rw [State.placeEntry_window, if_neg]
        exact fun hhead => hh (State.mem_freeHandles.mp (List.mem_of_mem_head? hhead))
      rw [List.foldl_cons, hkeep h (by rwa [hsame]), hsame]
    · rw [List.foldl_cons]
      cases m with
      | zero =>
        have hstaged : (s.placeEntry f).windows[h] = .staged f := by
          rw [State.placeEntry_window, if_pos (List.head?_eq_getElem? .. ▸ hm)]
        refine ⟨fun q hq => ?_, nofun⟩
        cases hq
        rw [hkeep h (by rw [hstaged]; nofun), hstaged]
      | succ m =>
        rw [List.getElem?_cons_succ]
        exact hplaced m h (by rwa [List.getElem?_tail])

end

/-! ### One screen after another -/

section
variable {s : State} {caller : Party} {es : List WindowFields} {k : ScreenId} {h : Handle}

/-- The recall marks the window: it stands on one of the screens (R157). -/
def Window.marksOn (w : Window) (caller : Party) (l : List ScreenId) : Bool := l.any fun k => w.belongsTo k && w.marks caller

theorem Window.marksOn_iff {w : Window} {l : List ScreenId} :
    w.marksOn caller l = true ↔ ∃ c p v x, w = .live c p v x ∧ c.screen ∈ l ∧ (caller = .panel → c.pinned = false) := by
  rw [Window.marksOn, List.any_eq_true]
  constructor
  · rintro ⟨k, hk, hboth⟩
    obtain ⟨hbelongs, hmarks⟩ := Bool.and_eq_true_iff.mp hboth
    cases w with
    | live c p v x =>
      obtain rfl : c.screen = k := Option.some.inj (Window.belongsTo_iff.mp hbelongs)
      exact ⟨c, p, v, x, rfl, hk, of_decide_eq_true hmarks⟩
    | free | staged | retiring => cases hmarks
  · rintro ⟨c, p, v, x, rfl, hk, hpinned⟩
    exact ⟨c.screen, hk, Bool.and_eq_true_iff.mpr ⟨Window.belongsTo_iff.mpr rfl, decide_eq_true hpinned⟩⟩

theorem Window.marksOn_staged (f : WindowFields) (l : List ScreenId) : (Window.staged f).marksOn caller l = false :=
  Bool.eq_false_iff.mpr fun hmarks => by
    obtain ⟨c, p, v, x, hw, -⟩ := Window.marksOn_iff.mp hmarks
    cases hw

theorem Window.isFree_retire {w : Window} (hmarks : w.marks caller = true) : w.retire.isFree = w.isFree := by
  cases w with
  | live => rfl
  | free | staged | retiring => cases hmarks

/-- The table after a recall's marks on screen k. -/
def State.markScreen (s : State) (caller : Party) (k : ScreenId) : State :=
  { s with windows := mapTable (fun _ w => if w.belongsTo k && w.marks caller then w.retire else w) s.windows }

theorem State.markScreen_window (s : State) (caller : Party) (k : ScreenId) (h : Handle) :
    (s.markScreen caller k).windows[h] =
      if s.windows[h].belongsTo k && s.windows[h].marks caller then s.windows[h].retire else s.windows[h] := mapTable_get ..

theorem State.markScreen_isFree (h : Handle) : (s.markScreen caller k).windows[h].isFree = s.windows[h].isFree := by
  rw [State.markScreen_window]
  split
  · rename_i hboth
    exact Window.isFree_retire (Bool.and_eq_true_iff.mp hboth).2
  · rfl

/-- What a recall on screen k does to the table (R157). -/
theorem State.recallScreen_table (s : State) (caller : Party) (es : List WindowFields) (k : ScreenId) :
    (s.recallScreen caller es k).freeHandles = s.freeHandles.drop (es.filter (·.screen = k)).length ∧
      (∀ h : Handle, s.windows[h] ≠ .free → (s.recallScreen caller es k).windows[h] =
        if s.windows[h].belongsTo k && s.windows[h].marks caller then s.windows[h].retire else s.windows[h]) ∧
      ∀ (m : Nat) (h : Handle), s.freeHandles[m]? = some h →
        (∀ f, (es.filter (·.screen = k))[m]? = some f → (s.recallScreen caller es k).windows[h] = .staged f) ∧
        ((es.filter (·.screen = k))[m]? = none → (s.recallScreen caller es k).windows[h] = .free) := by
  obtain ⟨hdrop, hkeep, hplaced⟩ := State.foldl_placeEntry (es.filter (·.screen = k)) (s.markScreen caller k)
  have hfree : (s.markScreen caller k).freeHandles = s.freeHandles := State.freeHandles_congr State.markScreen_isFree
  rw [hfree] at hdrop hplaced
  refine ⟨hdrop, fun h hh => ?_, hplaced⟩
  rw [← s.markScreen_window caller k h]
  refine hkeep h fun heq => hh ?_
  rw [← Window.isFree_iff, ← State.markScreen_isFree (caller := caller) (k := k), heq]
  rfl

/-- The entries of a list of screens, screen by screen. -/
def entriesOn (es : List WindowFields) (l : List ScreenId) : List WindowFields := l.flatMap fun k => es.filter (·.screen = k)

/-- The recall carried out on a list of screens. -/
def State.recallOn (s : State) (caller : Party) (es : List WindowFields) (l : List ScreenId) : State :=
  l.foldl (fun t k => t.recallScreen caller es k) s

theorem State.recallOn_table {l : List ScreenId} (hl : l.Nodup) (s : State) :
    (∀ h : Handle, s.windows[h] ≠ .free →
      (s.recallOn caller es l).windows[h] = if s.windows[h].marksOn caller l then s.windows[h].retire else s.windows[h]) ∧
    ∀ (m : Nat) (h : Handle), s.freeHandles[m]? = some h →
      (∀ f, (entriesOn es l)[m]? = some f → (s.recallOn caller es l).windows[h] = .staged f) ∧
      ((entriesOn es l)[m]? = none → (s.recallOn caller es l).windows[h] = .free) := by
  induction l generalizing s with
  | nil =>
    exact ⟨fun _ _ => rfl, fun m h hm => ⟨nofun, fun _ => State.free_of_getElem? hm⟩⟩
  | cons k l ih =>
    obtain ⟨hk, hl⟩ := List.nodup_cons.mp hl
    obtain ⟨hdrop, hkeep, hplaced⟩ := s.recallScreen_table caller es k
    obtain ⟨hrest, hentries⟩ := ih hl (s.recallScreen caller es k)
    have hstep : s.recallOn caller es (k :: l) = (s.recallScreen caller es k).recallOn caller es l := rfl
    rw [hstep]
    refine ⟨fun h hh => ?_, fun m h hm => ?_⟩
    · have hhere := hkeep h hh
      cases hmarks : s.windows[h].belongsTo k && s.windows[h].marks caller with
      | true =>
        rw [hmarks, if_pos rfl] at hhere
        obtain ⟨hbelongs, hmark⟩ := Bool.and_eq_true_iff.mp hmarks
        have hlater : (s.windows[h].retire).marksOn caller l = false := by
          rw [Window.marksOn, List.any_eq_false]
          intro j hj hboth
          have hj' := (Bool.and_eq_true_iff.mp hboth).1
          cases hw : s.windows[h] with
          | live c p v x =>
            rw [hw] at hbelongs hj'
            exact hk (Window.belongsTo_unique hbelongs hj' ▸ hj)
          | free | staged | retiring =>
            rw [hw] at hmark
            cases hmark
        have hfree : s.windows[h].retire ≠ .free := fun heq => hh (Window.isFree_iff.mp (by
          rw [← Window.isFree_retire hmark, heq]
          rfl))
        rw [hrest h (by rwa [hhere]), hhere, hlater, Window.marksOn, List.any_cons, hmarks]
        rfl
      | false =>
        rw [hmarks] at hhere
        have hsame : (s.recallScreen caller es k).windows[h] = s.windows[h] := hhere
        rw [hrest h (by rwa [hsame]), hsame, Window.marksOn, Window.marksOn, List.any_cons, hmarks, Bool.false_or]
    · have happend : entriesOn es (k :: l) = es.filter (·.screen = k) ++ entriesOn es l := rfl
      rw [happend]
      rcases Nat.lt_or_ge m (es.filter (·.screen = k)).length with hlt | hge
      · rw [List.getElem?_append_left hlt]
        obtain ⟨f, hf⟩ : ∃ f, (es.filter (·.screen = k))[m]? = some f := ⟨_, List.getElem?_eq_getElem hlt⟩
        have hstaged := (hplaced m h hm).1 f hf
        refine ⟨fun q hq => ?_, fun hnone => ?_⟩
        · cases hf.symm.trans hq
          rw [hrest h (by rw [hstaged]; nofun), hstaged, Window.marksOn_staged]
          rfl
        · cases hf.symm.trans hnone
      · rw [List.getElem?_append_right hge]
        refine hentries (m - (es.filter (·.screen = k)).length) h ?_
        rw [hdrop, List.getElem?_drop, Nat.add_sub_cancel' hge, hm]

end

/-! ### The recall -/

section
variable {s : State} {caller : Party} {n : SceneId} {k : ScreenId} {h : Handle} {es : List WindowFields} {l : List ScreenId}

theorem entriesOn_length (hl : l.Nodup) : (entriesOn es l).length = (es.filter fun f => l.contains f.screen).length := by
  have hsplit : ∀ (k : ScreenId) (l : List ScreenId), k ∉ l → (es.filter fun f => (k :: l).contains f.screen).length =
      (es.filter (·.screen = k)).length + (es.filter fun f => l.contains f.screen).length := by
    intro k l hk
    induction es with
    | nil => rfl
    | cons f es ih =>
      by_cases hf : f.screen = k
      · have hl : f.screen ∉ l := hf ▸ hk
        simp_all
        omega
      · by_cases hfl : f.screen ∈ l
        · simp_all
          omega
        · simp_all
  induction l with
  | nil => simp [entriesOn]
  | cons k l ih =>
    obtain ⟨hk, hl⟩ := List.nodup_cons.mp hl
    rw [hsplit k l hk, ← ih hl]
    exact List.length_append ..

theorem entriesOn_screen (hl : l.Nodup) (k : ScreenId) :
    (entriesOn es l).filter (·.screen = k) = if k ∈ l then es.filter (·.screen = k) else [] := by
  induction l with
  | nil => rfl
  | cons m l ih =>
    obtain ⟨hm, hl⟩ := List.nodup_cons.mp hl
    have happend : entriesOn es (m :: l) = es.filter (·.screen = m) ++ entriesOn es l := rfl
    rw [happend, List.filter_append, ih hl, List.filter_filter]
    by_cases hmk : m = k
    · subst hmk
      rw [if_neg hm, if_pos (List.mem_cons_self ..), List.append_nil]
      exact List.filter_congr fun f _ => Bool.and_self _
    · have hnone : (es.filter fun f => decide (f.screen = k) && decide (f.screen = m)) = [] := by
        rw [List.filter_eq_nil_iff]
        intro f _ hboth
        obtain ⟨hk, hm⟩ := Bool.and_eq_true_iff.mp hboth
        exact hmk ((of_decide_eq_true hm).symm.trans (of_decide_eq_true hk))
      rw [hnone, List.nil_append]
      simp only [List.mem_cons, Ne.symm hmk, false_or]

theorem entriesOn_order (hl : l.Pairwise (· < ·)) : ((entriesOn es l).map WindowFields.screen).Pairwise (· ≤ ·) := by
  have hscreen : ∀ {m f}, f ∈ es.filter (·.screen = m) → f.screen = m := fun hf => of_decide_eq_true (List.mem_filter.mp hf).2
  rw [List.pairwise_map]
  refine List.pairwise_flatMap.mpr ⟨fun m _ => ?_, hl.imp fun {a b} hab f hf g hg => ?_⟩
  · exact List.Pairwise.imp_of_mem (R := fun _ _ => True) (fun hf hg _ => ((hscreen hf).trans (hscreen hg).symm).le)
      (List.pairwise_of_forall fun _ _ => trivial)
  · rw [hscreen hf, hscreen hg]
    exact hab.le

/-- The covered screens of a scene. -/
def Scene.screens (r : Scene) : List ScreenId := (List.finRange 8).filter fun (k : ScreenId) => r.covered.getLsbD k

/-- The screens on which a recall is carried out (R156). -/
def State.recallScreens (s : State) (caller : Party) (n : SceneId) : List ScreenId :=
  s.scenes[n].screens.filter fun k => s.applicable caller k

theorem State.mem_recallScreens :
    k ∈ s.recallScreens caller n ↔ s.scenes[n].covered.getLsbD k = true ∧ s.screens[k].mode ≠ .off ∧ s.stages[k] = .empty ∧
      (caller = .panel → s.screens[k].keypadLock = false) := by
  rw [State.recallScreens, List.mem_filter, Scene.screens, List.mem_filter, State.applicable, decide_eq_true_iff]
  exact and_congr_left fun _ => and_iff_right (List.mem_finRange k)

theorem State.recallScreens_ascend (s : State) (caller : Party) (n : SceneId) : (s.recallScreens caller n).Pairwise (· < ·) :=
  ((List.pairwise_lt_finRange 8).filter _).filter _

theorem State.recallScreens_nodup (s : State) (caller : Party) (n : SceneId) : (s.recallScreens caller n).Nodup :=
  (s.recallScreens_ascend caller n).imp ne_of_lt

theorem Scene.screens_eq_nil {r : Scene} : r.screens = [] ↔ r.covered = 0x00#8 := by
  rw [Scene.screens, List.filter_eq_nil_iff]
  constructor
  · intro hnone
    refine BitVec.eq_of_getLsbD_eq fun i hi => ?_
    rw [BitVec.getLsbD_zero]
    exact Bool.eq_false_iff.mpr (hnone ⟨i, hi⟩ (List.mem_finRange _))
  · intro hzero k _
    rw [hzero, BitVec.getLsbD_zero]
    nofun

/-- The handles that a recall marks. -/
def State.markedHandles (s : State) (caller : Party) (l : List ScreenId) : Finset Handle :=
  Finset.univ.filter fun h => s.windows[h].marksOn caller l = true

theorem State.markedHandles_card (hl : l.Nodup) : (s.markedHandles caller l).card = (l.map fun k => (s.marked caller k).length).sum := by
  have hnodup : (l.flatMap fun k => s.marked caller k).Nodup := by
    refine List.nodup_flatMap.mpr ⟨fun k _ => (List.nodup_finRange 64).filter _, hl.imp fun {a b} hab h ha hb => ?_⟩
    have hbelongs : ∀ {k}, h ∈ s.marked caller k → s.windows[h].belongsTo k = true := fun hk =>
      (Bool.and_eq_true_iff.mp (List.mem_filter.mp hk).2).1
    exact hab (Window.belongsTo_unique (hbelongs ha) (hbelongs hb))
  have hset : s.markedHandles caller l = (l.flatMap fun k => s.marked caller k).toFinset := by
    ext h
    simp only [State.markedHandles, Finset.mem_filter, Finset.mem_univ, true_and, List.mem_toFinset, List.mem_flatMap,
      State.marked, List.mem_filter, List.mem_finRange, Window.marksOn, List.any_eq_true]
  rw [hset, List.toFinset_card_of_nodup hnodup, List.length_flatMap]

/-- The set byte of a list of screens, its members counted as numbers. -/
theorem getLsbD_screenSet (l : List ScreenId) (k : ScreenId) :
    (l.foldl (fun b k => b ||| BitVec.twoPow 8 k) 0#8).getLsbD k = decide (k ∈ l) := by
  have hset := getLsbD_foldl_twoPow l 0#8 k
  rw [BitVec.getLsbD_zero, Bool.false_or] at hset
  rw [← hset, List.bind_eq_flatMap]
  simp only [List.pure_def, ← List.map_eq_flatMap, List.foldl_map]

theorem State.recall_eq (s : State) (caller : Party) (n : SceneId) :
    s.recall caller n =
      if s.scenes[n].screens = [] then .error .sceneEmpty
      else if s.recallScreens caller n = [] then .error .refused
      else if s.freeHandles.length < (s.scenes[n].entries.filter fun f => (s.recallScreens caller n).contains f.screen).length then
        .error .noHandles
      else
        .ok
          { complete := s.recallScreens caller n = s.scenes[n].screens
            screens := (s.recallScreens caller n).foldl (fun b k => b ||| BitVec.twoPow 8 k) 0#8
            placed := (s.scenes[n].entries.filter fun f => (s.recallScreens caller n).contains f.screen).length
            marked := ((s.recallScreens caller n).map fun k => (s.marked caller k).length).sum
            after := s.recallOn caller s.scenes[n].entries (s.recallScreens caller n) } := rfl

theorem State.recallOn_stage (hl : l.Nodup) (s : State) (k : ScreenId) :
    (s.recallOn caller es l).stages[k] = if k ∈ l then .sealed caller 0 else s.stages[k] :=
  foldl_at (f := fun t k => t.recallScreen caller es k) (obs := fun k t => t.stages[k]) (new := fun _ _ => .sealed caller 0)
    (fun s a => by
      rw [State.recallScreen_stages]
      exact vector_get_set_self ..)
    (fun s a b hab => by
      rw [State.recallScreen_stages]
      exact vector_get_set_ne _ _ hab) hl s k

theorem recallScene_badArgument {args : List Byte} (hbad : 16 ≤ num args 0) : recallScene args s = refuse .badArgument s := by
  simp only [recallScene, ident_eq_none.mpr hbad]

theorem recallScene_error {args : List Byte} {code : ResultCode} (hn : num args 0 = n.val) (hr : s.recall .link n = .error code) :
    recallScene args s = refuse code s := by
  simp only [recallScene, ident_eq_some.mpr hn, hr]

theorem recallScene_ok {args : List Byte} {r : Recalled} (hn : num args 0 = n.val) (hr : s.recall .link n = .ok r) :
    recallScene args s = reply [if r.complete then 0x80#8 else 0x81#8, r.screens, byte r.placed, byte r.marked] r.after := by
  have hcode : KeyOutcome.code (if r.complete then .done else .partly) = if r.complete then 0x80#8 else 0x81#8 := by
    cases r.complete <;> rfl
  simp only [recallScene, ident_eq_some.mpr hn, hr, hcode]

end

/-- Settles O58: the refusals in order, then mark by mark and entry by entry. -/
theorem recallsMarkPlaceAndSeal : Obligations.RecallsMarkPlaceAndSeal := by
  refine ⟨?recalls, fun b s hs => ?command⟩
  case recalls =>
    intro caller n s applicable
    have hscreens : ∀ k, k ∈ s.recallScreens caller n ↔ applicable k := fun k => State.mem_recallScreens
    have hnodup := s.recallScreens_nodup caller n
    have hrecall := s.recall_eq caller n
    rw [← entriesOn_length hnodup] at hrecall
    have hcovered : (∃ k, applicable k) → s.scenes[n].screens ≠ [] := fun ⟨k, hk, _⟩ hnil => by
      rw [Scene.screens_eq_nil.mp hnil, BitVec.getLsbD_zero] at hk
      cases hk
    have hsome : (∃ k, applicable k) → s.recallScreens caller n ≠ [] := fun ⟨k, hk⟩ => List.ne_nil_of_mem ((hscreens k).mpr hk)
    refine ⟨s.freeHandles, entriesOn s.scenes[n].entries (s.recallScreens caller n), s.freeHandles_ascend,
      fun h => State.mem_freeHandles, entriesOn_order (s.recallScreens_ascend caller n), fun k => ⟨fun hk => ?_, fun hk => ?_⟩,
      fun hzero => ?_, fun hne hno => ?_, fun hex hfew => ?_, fun hex henough => ?_⟩
    · rw [entriesOn_screen hnodup, if_pos ((hscreens k).mpr hk)]
    · rw [entriesOn_screen hnodup, if_neg (mt (hscreens k).mp hk)]
    · rw [hrecall, if_pos (Scene.screens_eq_nil.mpr hzero)]
    · rw [hrecall, if_neg (mt Scene.screens_eq_nil.mp hne), if_pos]
      exact List.eq_nil_iff_forall_not_mem.mpr fun k hk => hno k ((hscreens k).mp hk)
    · rw [hrecall, if_neg (hcovered hex), if_neg (hsome hex), if_pos hfew]
    · rw [if_neg (hcovered hex), if_neg (hsome hex), if_neg (Nat.not_lt.mpr henough)] at hrecall
      obtain ⟨hkept, hplaced⟩ := State.recallOn_table (caller := caller) (es := s.scenes[n].entries) hnodup s
      refine ⟨_, s.markedHandles caller (s.recallScreens caller n), hrecall, ?_, fun k => ?_, rfl,
        (State.markedHandles_card hnodup).symm, fun h => ?_, State.recall_frame hrecall, fun k => ⟨fun hk => ?_, fun hk => ?_⟩,
        fun h hh c w v x hw => ?_, fun h hh hfree => ?_, hplaced⟩
      · rw [decide_eq_true_iff, State.recallScreens, List.filter_eq_self]
        refine forall_congr' fun k => ?_
        have hmem : k ∈ s.scenes[n].screens ↔ s.scenes[n].covered.getLsbD k = true :=
          List.mem_filter.trans (and_iff_right (List.mem_finRange k))
        rw [hmem, State.applicable, decide_eq_true_iff]
        exact forall_congr' fun hk => (and_iff_right hk).symm
      · rw [getLsbD_screenSet, decide_eq_true_iff, hscreens]
      · rw [State.markedHandles, Finset.mem_filter, Window.marksOn_iff]
        refine (and_iff_right (Finset.mem_univ h)).trans ?_
        simp only [hscreens]
      · exact (State.recallOn_stage hnodup s k).trans (if_pos ((hscreens k).mpr hk))
      · exact (State.recallOn_stage hnodup s k).trans (if_neg (mt (hscreens k).mp hk))
      · refine (hkept h (by rw [hw]; nofun)).trans ?_
        rw [(Finset.mem_filter.mp hh).2, hw]
        rfl
      · refine (hkept h hfree).trans ?_
        rw [if_neg fun hmarks => hh (Finset.mem_filter.mpr ⟨Finset.mem_univ h, hmarks⟩)]
  case command =>
    have hrow : ∀ {code fields t}, recallScene [b] s = ⟨code, fields, t⟩ →
        exec (.recallScene [b]) s = .next (t.answers 1 code fields) :=
      fun ha => exec_answers (op := .recallScene) (args := [b]) rfl hs ha
    refine ⟨fun hbad => hrow (recallScene_badArgument hbad), fun n hb => ?_⟩
    have hn : num [b] 0 = n.val := hb
    exact ⟨fun code hr => hrow (recallScene_error hn hr), fun r hr => hrow (recallScene_ok hn hr)⟩

end Sys2Proof.Machine
end

section
/-! PROOFS. A feed's frame start and frame end (R98 to R103, R105, R107 to R109): the size measured, the presence it leads to, the slot
and the pixels in it. -/

namespace Sys2Proof.Machine

/-! ### The size of a frame (R99) -/

theorem measured_eq_iff {n w : Nat} (hw : w ≤ 1920) : measured n = w ↔ n = w := by
  have hlimit : Config.measureLimit = 4095 := rfl
  rw [measured, hlimit]
  omega

theorem Size.inRange_iff {z : Size} :
    z.inRange = true ↔ 64 ≤ z.width ∧ z.width ≤ 1920 ∧ 64 ≤ z.height ∧ z.height ≤ 1080 := decide_eq_true_iff

theorem FeedFrame.size_iff {f : FeedFrame} {z : Size} :
    f.size = some z ↔ f.trailing = [] ∧ f.lines.length = z.height ∧ (∀ line ∈ f.lines, line.length = z.width) ∧
      64 ≤ z.width ∧ z.width ≤ 1920 ∧ 64 ≤ z.height ∧ z.height ≤ 1080 := by
  unfold FeedFrame.size
  split
  · rename_i hlines
    rw [hlines]
    exact iff_of_false nofun fun ⟨_, hheight, _, _, _, hlow, _⟩ => by
      rw [← hheight] at hlow
      cases hlow
  · rename_i line rest hlines
    rw [hlines]
    dsimp only
    rw [Option.ite_none_right_eq_some, List.all_eq_true, Size.inRange_iff, Option.some_inj]
    constructor
    · rintro ⟨⟨htrailing, hall, hrange⟩, rfl⟩
      have ⟨_, hwide, _, hhigh⟩ := hrange
      have hwidth := (measured_eq_iff hwide).mp rfl
      have hheight := (measured_eq_iff (Nat.le_trans hhigh (by decide))).mp rfl
      refine ⟨htrailing, hheight, fun l hl => ?_, hrange⟩
      rcases List.mem_cons.mp hl with rfl | hl
      · exact hwidth
      · exact (measured_eq_iff hwide).mp (eq_of_beq (hall l hl))
    · rintro ⟨htrailing, hheight, hall, hrange⟩
      have ⟨_, hwide, _, hhigh⟩ := hrange
      have hwidth : measured line.length = z.width := (measured_eq_iff hwide).mpr (hall line (List.mem_cons_self ..))
      have hcount : measured (rest.length + 1) = z.height := (measured_eq_iff (Nat.le_trans hhigh (by decide))).mpr hheight
      refine ⟨⟨htrailing, fun l hl => ?_, ?_⟩, ?_⟩
      · rw [beq_iff_eq, hwidth]
        exact (measured_eq_iff hwide).mpr (hall l (List.mem_cons_of_mem _ hl))
      · rw [hwidth, hcount]
        exact hrange
      · rw [hwidth, hcount]

/-! ### The pixels stored (R99, R108) -/

theorem FeedFrame.stored_pixel (f : FeedFrame) (column row : Nat) :
    (f.stored[row]?.getD [])[column]? =
      if column ≤ 1919 ∧ row ≤ 1079 then ((f.lines ++ [f.trailing])[row]?.getD [])[column]? else none := by
  have hrow : f.stored[row]? = if row < 1080 then ((f.lines ++ [f.trailing])[row]?).map fun l => l.take 1920 else none := by
    rw [FeedFrame.stored, List.getElem?_map, List.getElem?_take]
    exact apply_ite (Option.map _) ..
  rw [hrow]
  by_cases hr : row < 1080
  · rw [if_pos hr]
    cases (f.lines ++ [f.trailing])[row]? with
    | none => simp
    | some l =>
      show (l.take 1920)[column]? = if _ then l[column]? else none
      rw [List.getElem?_take]
      refine if_congr ?_ rfl rfl
      omega
  · rw [if_neg hr, if_neg fun hboth => hr (by omega)]
    rfl

/-- What the writer puts over the contents of a slot (R99, R108). -/
theorem writesPixels_storePixels (f : FeedFrame) (old : Pixels) : writesPixels f old (storePixels old f.stored) := by
  intro column row delivered
  rw [pixelAt_storePixels, FeedFrame.stored_pixel]
  refine ⟨fun p hp hcolumn hrow => ?_, fun hout => ?_⟩
  · rw [if_pos ⟨hcolumn, hrow⟩, show ((f.lines ++ [f.trailing])[row]?.getD [])[column]? = some p from hp]
    rfl
  · split
    · rename_i hin
      have hnone : ((f.lines ++ [f.trailing])[row]?.getD [])[column]? = none := hout.resolve_right (by omega)
      rw [hnone]
      rfl
    · rfl

/-! ### Frame start (R100, R107) -/

section
variable {s : State} {i : InputId} {f : FeedFrame} {p : Input} {j : SlotId}

theorem Input.begin_none : p.begin none f = { p with inProgress := .unstored f } := rfl

theorem Input.begin_some :
    p.begin (some j) f =
      { p with
        inProgress := .stored j f
        slots := p.slots.set j { p.slots[j] with contents := storePixels p.slots[j].contents f.stored } } := rfl

theorem State.pinned_false : s.pinned i j = false ↔ ∀ k : ScreenId, s.screens[k].pins[i] ≠ some j := by
  rw [← Bool.not_eq_true, State.pinned_iff, not_exists]
  exact forall_congr' fun k => not_congr decide_eq_true_iff

theorem State.feedFrameStart_ready (h : s.startup = .ready) :
    s.feedFrameStart i f =
      (s.setInput i (s.begunInput i
        (s.inputs[i].changed ||
          s.inputs[i].presence.isPresent != (s.inputs[i].presence.atFrameStart s.inputs[i].inProgress).isPresent) f)).raiseIf
        (s.inputs[i].presence.isPresent != (s.inputs[i].presence.atFrameStart s.inputs[i].inProgress).isPresent &&
          s.inputs[i].eventEnable) .input := by
  have hself : ∀ q, (s.setInput i q).inputs[i] = q := fun q => vector_get_set_self ..
  unfold State.feedFrameStart
  rw [if_pos h]
  dsimp only
  rw [State.setPresence_change, State.raiseIf_setInput, State.setInput_setInput, State.raiseIf_inputs, hself]
  rfl

theorem Presence.atFrameStart_changes (p : Presence) (g : InProgress) :
    (p.isPresent != (p.atFrameStart g).isPresent) = true ↔ (∃ z, p = .present z) ∧ g ≠ .none := by
  cases p <;> cases g <;> simp [Presence.atFrameStart, Presence.isPresent]

theorem Presence.atFrameStart_fresh {p : Presence} {g : InProgress} (h : p = .absent ∨ g ≠ .none) :
    p.atFrameStart g = .acquiring none := by
  rcases h with rfl | h
  · rfl
  · cases g with
    | none => exact absurd rfl h
    | stored | unstored => cases p <;> rfl

theorem Presence.atFrameStart_kept {p : Presence} (h : p ≠ .absent) : p.atFrameStart .none = p := by
  cases p with
  | absent => exact absurd rfl h
  | acquiring | present => rfl

end

/-- Settles O47: the record field by field, the slot by whether one is writable. -/
theorem feedFrameStartGivesASlot : Obligations.FeedFrameStartGivesASlot := by
  intro i f s
  refine ⟨fun hready => congrArg Host.Outcome.next (if_neg hready), fun hready => ?_⟩
  intro old leaves writable
  have hrow : exec (.feedFrameStart ⟨i, f⟩) s = .next (s.feedFrameStart i f) := rfl
  have hleaves : (old.presence.isPresent != (old.presence.atFrameStart old.inProgress).isPresent) = true ↔ leaves :=
    Presence.atFrameStart_changes ..
  have hwritable : ∀ {g}, writable g ↔ old.newest ≠ some g ∧ s.pinned i g = false := fun {g} =>
    and_congr_right fun _ => State.pinned_false.symm
  rw [hrow, State.feedFrameStart_ready hready, State.raiseIf_eq]
  generalize hb : (s.inputs[i].changed || _) = b
  have hframe := s.begunInput_frame i b f
  refine ⟨s.begunInput i b f, _, rfl, fun h => ?_, fun h hnone => ?_, ?_, ?_, ?_, fun h => ?_, fun h => ?_, fun h henable => ?_,
    fun h => ?_, fun j hj hlow => ?_, fun hno => ?_⟩
  · rw [hframe]
    exact Presence.atFrameStart_fresh h
  · rw [hframe]
    show old.presence.atFrameStart old.inProgress = _
    rw [hnone]
    exact Presence.atFrameStart_kept h
  · rw [hframe]
  · rw [hframe]
  · rw [hframe]
  · rw [hframe, ← hb]
    exact (congrArg (old.changed || ·) (hleaves.mpr h)).trans (Bool.or_true _)
  · rw [hframe, ← hb]
    exact (congrArg (old.changed || ·) (Bool.eq_false_iff.mpr (mt hleaves.mp h))).trans (Bool.or_false _)
  · exact if_pos (Bool.and_eq_true_iff.mpr ⟨hleaves.mpr h, henable⟩)
  · exact if_neg fun hboth => h ((Bool.and_eq_true_iff.mp hboth).imp hleaves.mp id)
  · have hslot : s.writerSlot i = some j := State.writerSlot_eq_some.mpr
      ⟨hwritable.mp hj, fun g hg hw => hlow g hg (hwritable.mpr hw)⟩
    rw [State.begunInput, hslot, Input.begin_some]
    refine ⟨rfl, ?_, fun g hg => vector_get_set_ne _ _ (Ne.symm hg), ?_⟩
    · dsimp only
      rw [vector_get_set_self]
    · dsimp only
      rw [vector_get_set_self]
      exact writesPixels_storePixels _ _
  · have hslot : s.writerSlot i = none := State.writerSlot_eq_none.mpr fun j => by
      by_contra hboth
      rw [not_or, Bool.not_eq_true] at hboth
      exact hno j (hwritable.mpr hboth)
    rw [State.begunInput, hslot, Input.begin_none]
    exact ⟨rfl, rfl⟩

/-! ### Frame end (R101 to R103, R109) -/

section
variable {s : State} {i : InputId} {f d : FeedFrame} {p : Presence} {j : SlotId} {b : Bool} {z : Size} {size : Option Size}

theorem State.feedFrameEnd_idle (h : s.startup ≠ .ready ∨ s.inputs[i].inProgress = .none) : s.feedFrameEnd i f = s := by
  unfold State.feedFrameEnd
  split
  · rename_i hready hd
    rcases h with h | h
    · exact absurd hready h
    · rw [h] at hd
      cases hd
  all_goals rfl

theorem State.feedFrameEnd_ready (h : s.startup = .ready) (hd : s.inputs[i].inProgress.delivered = some d) :
    s.feedFrameEnd i f =
      (s.setInput i (s.endedInput i
        (s.inputs[i].changed ||
          s.inputs[i].presence.isPresent != (s.inputs[i].presence.atFrameEnd (d.append f).size).isPresent) (d.append f))).raiseIf
        (s.inputs[i].presence.isPresent != (s.inputs[i].presence.atFrameEnd (d.append f).size).isPresent &&
          s.inputs[i].eventEnable) .input := by
  have hself : ∀ q, (s.setInput i q).inputs[i] = q := fun q => vector_get_set_self ..
  unfold State.feedFrameEnd
  simp only [h, hd]
  rw [State.setPresence_change, State.raiseIf_setInput, State.setInput_setInput, State.raiseIf_inputs, hself]
  rfl

theorem Presence.atFrameEnd_bad (h : p ≠ .absent) : p.atFrameEnd none = .acquiring none := by
  cases p with
  | absent => exact absurd rfl h
  | acquiring | present => rfl

theorem Presence.atFrameEnd_acquiring (c : Option Size) (z : Size) :
    (Presence.acquiring c).atFrameEnd (some z) = if c = some z then .present z else .acquiring (some z) := rfl

theorem Presence.atFrameEnd_present (c z : Size) :
    (Presence.present c).atFrameEnd (some z) = if c = z then .present c else .acquiring (some z) := rfl

/-- An accepted frame has the size that the input confirms. -/
theorem Presence.size_of_atFrameEnd (h : p.atFrameEnd size = .present z) : size = some z := by
  cases p with
  | absent => cases h
  | acquiring c =>
    cases size with
    | none => cases h
    | some y =>
      rw [Presence.atFrameEnd_acquiring] at h
      split at h
      · cases h
        rfl
      · cases h
  | present c =>
    cases size with
    | none => cases h
    | some y =>
      rw [Presence.atFrameEnd_present] at h
      split at h
      · rename_i hcy
        cases h
        rw [hcy]
      · cases h

theorem Presence.isPresent_false (h : ∀ z, p ≠ .present z) : p.isPresent = false := by
  cases p with
  | present z => exact absurd rfl (h z)
  | absent | acquiring => rfl

/-- The record after a stored frame that the input accepts (R109). -/
theorem State.endedInput_accepted (hslot : s.inputs[i].inProgress.slot = some j)
    (hpresence : s.inputs[i].presence.atFrameEnd f.size = .present z) :
    (s.endedInput i b f).newest = some j ∧
      (s.endedInput i b f).slots =
        s.inputs[i].slots.set j ⟨storePixels s.inputs[i].slots[j].contents f.stored, z⟩ := by
  have hsize := Presence.size_of_atFrameEnd hpresence
  have hstore : ({ s.inputs[i] with presence := s.inputs[i].presence.atFrameEnd f.size, changed := b } : Input).store f =
      { s.inputs[i] with
        presence := s.inputs[i].presence.atFrameEnd f.size
        changed := b
        slots := s.inputs[i].slots.set j
          { s.inputs[i].slots[j] with contents := storePixels s.inputs[i].slots[j].contents f.stored } } := by
    simp only [Input.store, hslot]
  rw [State.endedInput, hstore, hpresence, hsize, show (Presence.present z).isPresent = true from rfl,
    Input.complete_accepted (by exact hslot)]
  refine ⟨rfl, ?_⟩
  dsimp only
  rw [vector_get_set_self, Vector.set_set]

/-- The record after any other stored frame (R102, R108). -/
theorem State.endedInput_refused (hslot : s.inputs[i].inProgress.slot = some j)
    (hpresence : ∀ z, s.inputs[i].presence.atFrameEnd f.size ≠ .present z) :
    (s.endedInput i b f).newest = s.inputs[i].newest ∧
      (s.endedInput i b f).slots =
        s.inputs[i].slots.set j ⟨storePixels s.inputs[i].slots[j].contents f.stored, s.inputs[i].slots[j].tag⟩ := by
  have hstore : ({ s.inputs[i] with presence := s.inputs[i].presence.atFrameEnd f.size, changed := b } : Input).store f =
      { s.inputs[i] with
        presence := s.inputs[i].presence.atFrameEnd f.size
        changed := b
        slots := s.inputs[i].slots.set j
          { s.inputs[i].slots[j] with contents := storePixels s.inputs[i].slots[j].contents f.stored } } := by
    simp only [Input.store, hslot]
  rw [State.endedInput, hstore, Presence.isPresent_false hpresence, Input.complete_refused (.inr (.inr rfl))]
  exact ⟨rfl, rfl⟩

/-- A frame with no slot leaves the slots and the newest one (R107). -/
theorem State.endedInput_unstored (hslot : s.inputs[i].inProgress.slot = none) :
    (s.endedInput i b f).newest = s.inputs[i].newest ∧ (s.endedInput i b f).slots = s.inputs[i].slots := by
  have hstore : ({ s.inputs[i] with presence := s.inputs[i].presence.atFrameEnd f.size, changed := b } : Input).store f =
      { s.inputs[i] with presence := s.inputs[i].presence.atFrameEnd f.size, changed := b } := by
    simp only [Input.store, hslot]
  rw [State.endedInput, hstore, Input.complete_refused (.inl (by exact hslot))]
  exact ⟨rfl, rfl⟩

end

/-- Settles O48: the size, the joined frame, then the record field by field. -/
theorem feedFrameEndJudgesTheFrame : Obligations.FeedFrameEndJudgesTheFrame := by
  refine ⟨fun f z => FeedFrame.size_iff, fun d p => ⟨rfl, fun line rest => rfl⟩, fun i f s =>
    ⟨fun h => congrArg Host.Outcome.next (State.feedFrameEnd_idle h), fun d hready hd => ?_⟩⟩
  intro old size
  have hrow : exec (.feedFrameEnd i f) s = .next (s.feedFrameEnd i f) := rfl
  rw [hrow, State.feedFrameEnd_ready hready hd, State.raiseIf_eq]
  generalize hb : (s.inputs[i].changed || _) = b
  have hframe := s.endedInput_frame i b (d.append f)
  have hpresence : (s.endedInput i b (d.append f)).presence = old.presence.atFrameEnd size := by rw [hframe]
  refine ⟨s.endedInput i b (d.append f), _, rfl, fun c hc => ⟨fun hsize => ?_, fun z hsize => ⟨fun h => ?_, fun h => ?_⟩⟩,
    fun c hc => ⟨fun hsize => ?_, fun z hsize => ⟨fun h => ?_, fun h => ?_⟩⟩, ?_, ?_, ?_, fun j hslot => ?stored, fun hslot => ?_, ?changes⟩
  · rw [hpresence, hsize, Presence.atFrameEnd_bad (by rw [hc]; nofun)]
  · rw [hpresence, hsize, hc, Presence.atFrameEnd_acquiring, if_pos h]
  · rw [hpresence, hsize, hc, Presence.atFrameEnd_acquiring, if_neg h]
  · rw [hpresence, hsize, Presence.atFrameEnd_bad (by rw [hc]; nofun)]
  · rw [hpresence, hsize, hc, Presence.atFrameEnd_present, if_pos h, h]
  · rw [hpresence, hsize, hc, Presence.atFrameEnd_present, if_neg h]
  · rw [hframe]
  · rw [hframe]
  · rw [hframe]
  case stored =>
    have hwrites : ∀ tag, (s.endedInput i b (d.append f)).slots =
        old.slots.set j ⟨storePixels old.slots[j].contents (d.append f).stored, tag⟩ →
        writesPixels (d.append f) old.slots[j].contents (s.endedInput i b (d.append f)).slots[j].contents ∧
        (∀ g : SlotId, g ≠ j → (s.endedInput i b (d.append f)).slots[g] = old.slots[g]) ∧
        (s.endedInput i b (d.append f)).slots[j].tag = tag := by
      intro tag hslots
      rw [hslots, vector_get_set_self]
      exact ⟨writesPixels_storePixels _ _, fun g hg => vector_get_set_ne _ _ (Ne.symm hg), rfl⟩
    rw [hpresence]
    by_cases haccepted : ∃ z, old.presence.atFrameEnd size = .present z
    · obtain ⟨z, hz⟩ := haccepted
      obtain ⟨hnewest, hslots⟩ := State.endedInput_accepted (b := b) hslot hz
      obtain ⟨hpixels, hothers, htag⟩ := hwrites z hslots
      refine ⟨hpixels, hothers, fun y hy => ?_, fun hno => absurd hz (hno z)⟩
      cases hz.symm.trans hy
      exact ⟨hnewest, htag⟩
    · have hno : ∀ z, old.presence.atFrameEnd size ≠ .present z := fun z hz => haccepted ⟨z, hz⟩
      obtain ⟨hnewest, hslots⟩ := State.endedInput_refused (b := b) hslot hno
      obtain ⟨hpixels, hothers, htag⟩ := hwrites _ hslots
      exact ⟨hpixels, hothers, fun z hz => absurd hz (hno z), fun _ => ⟨hnewest, htag⟩⟩
  · exact State.endedInput_unstored hslot
  case changes =>
    intro changes
    have hchanges : (old.presence.isPresent != (old.presence.atFrameEnd size).isPresent) = true ↔ changes := by
      rw [bne_iff_ne, ne_comm]
      exact not_congr (by rw [hpresence])
    refine ⟨fun h => ?_, fun h => ?_, fun h henable => ?_, fun h => ?_⟩
    · rw [hframe, ← hb]
      exact (congrArg (old.changed || ·) (hchanges.mpr h)).trans (Bool.or_true _)
    · rw [hframe, ← hb]
      exact (congrArg (old.changed || ·) (Bool.eq_false_iff.mpr (mt hchanges.mp h))).trans (Bool.or_false _)
    · exact if_pos (Bool.and_eq_true_iff.mpr ⟨hchanges.mpr h, henable⟩)
    · exact if_neg fun hboth => h ((Bool.and_eq_true_iff.mp hboth).imp hchanges.mp id)

end Sys2Proof.Machine
end

section
/-! PROOFS. The keys (R161 to R163): what an action does from a state whose key has a new record, and the rows of one key. -/

namespace Sys2Proof.Machine

section
variable {s : State} {k : KeyId} {new : Key}

/-! ### Actions and the record of a key do not meet -/

theorem State.setKey_setKey (s : State) (k : KeyId) (q r : Key) : (s.setKey k q).setKey k r = s.setKey k r := by
  simp only [State.setKey, Vector.set_set]

theorem State.setKey_key (s : State) (k : KeyId) (r : Key) : (s.setKey k r).keys[k] = r := vector_get_set_self ..

theorem State.placeEntry_setKey (s : State) (r : Key) (f : WindowFields) :
    (s.setKey k r).placeEntry f = (s.placeEntry f).setKey k r := by
  have hlowest : (s.setKey k r).lowestFree = s.lowestFree := rfl
  unfold State.placeEntry
  rw [hlowest]
  split <;> rfl

theorem State.recallScreen_setKey (s : State) (r : Key) (caller : Party) (es : List WindowFields) (m : ScreenId) :
    (s.setKey k r).recallScreen caller es m = (s.recallScreen caller es m).setKey k r := by
  have hfold : ∀ (l : List WindowFields) (u : State),
      l.foldl State.placeEntry (u.setKey k r) = (l.foldl State.placeEntry u).setKey k r := by
    intro l
    induction l with
    | nil => exact fun _ => rfl
    | cons f l ih =>
      intro u
      rw [List.foldl_cons, List.foldl_cons, State.placeEntry_setKey, ih]
  exact congrArg (State.setStage · m (.sealed caller 0)) (hfold _ (s.markScreen caller m))

theorem State.recallOn_setKey (s : State) (r : Key) (caller : Party) (es : List WindowFields) (l : List ScreenId) :
    (s.setKey k r).recallOn caller es l = (s.recallOn caller es l).setKey k r := by
  induction l generalizing s with
  | nil => rfl
  | cons m l ih =>
    show ((s.setKey k r).recallScreen caller es m).recallOn caller es l = _
    rw [State.recallScreen_setKey, ih]
    rfl

/-- A recall does not read the keys. -/
theorem State.recall_setKey (s : State) (r : Key) (caller : Party) (n : SceneId) :
    (s.setKey k r).recall caller n = (s.recall caller n).map fun q => { q with after := q.after.setKey k r } := by
  have hscreens : (s.setKey k r).recallScreens caller n = s.recallScreens caller n := rfl
  have hscenes : (s.setKey k r).scenes = s.scenes := rfl
  have hfree : (s.setKey k r).freeHandles = s.freeHandles := rfl
  rw [State.recall_eq, State.recall_eq, hscreens, hscenes, hfree, State.recallOn_setKey]
  split
  · rfl
  · split
    · rfl
    · split <;> rfl

theorem State.advanceCarousel_setKey (s : State) (r : Key) (c : CarouselId) :
    (s.setKey k r).advanceCarousel c = (s.advanceCarousel c).setKey k r := by
  have hpresent : (s.setKey k r).inputPresent = s.inputPresent := rfl
  have hcarousels : (s.setKey k r).carousels = s.carousels := rfl
  rw [State.advanceCarousel, State.advanceCarousel, hpresent, hcarousels]
  cases (advanceChain s.inputPresent chainFuel c s.carousels).2 <;> rfl

/-- A carousel command does not read the keys. -/
theorem State.carouselAnswer_setKey (s : State) (r : Key) (c : CarouselId) :
    (s.setKey k r).startCarousel c = { s.startCarousel c with after := (s.startCarousel c).after.setKey k r } ∧
    (s.setKey k r).stopCarousel c = { s.stopCarousel c with after := (s.stopCarousel c).after.setKey k r } ∧
    (s.setKey k r).stepCarousel c = { s.stepCarousel c with after := (s.stepCarousel c).after.setKey k r } := by
  have hcarousels : (s.setKey k r).carousels = s.carousels := rfl
  refine ⟨?_, rfl, ?_⟩
  · rw [State.startCarousel, State.startCarousel, hcarousels]
    split <;> rfl
  · rw [State.stepCarousel, State.stepCarousel, hcarousels, State.advanceCarousel_setKey]
    split
    · rfl
    · split <;> rfl

theorem State.performAction_setKey (s : State) (r : Key) (a : Action) :
    (s.setKey k r).performAction a = (s.performAction a).map fun p => (p.1, p.2.setKey k r) := by
  match a with
  | .none => rfl
  | .recall n =>
    rw [State.performAction, State.performAction, State.recall_setKey]
    cases s.recall .panel n <;> rfl
  | .step c =>
    rw [State.performAction, State.performAction, (s.carouselAnswer_setKey r c).2.2]
    rfl
  | .toggle c =>
    obtain ⟨hstart, hstop, -⟩ := s.carouselAnswer_setKey (k := k) r c
    have hcarousels : (s.setKey k r).carousels = s.carousels := rfl
    rw [State.performAction, State.performAction, hstart, hstop, hcarousels]
    cases s.carousels[c].asksRunning <;> rfl

/-! ### The action of a key -/

theorem State.keyAction_none (h : s.performAction new.action = none) : (s.setKey k new).keyAction k = s.setKey k new := by
  simp only [State.keyAction, State.setKey_key, State.performAction_setKey, h, Option.map_none]

theorem State.keyAction_some {o : KeyOutcome} {t : State} (h : s.performAction new.action = some (o, t)) :
    (s.setKey k new).keyAction k = (t.setKey k { new with outcome := o }).raise .key := by
  simp only [State.keyAction, State.setKey_key, State.performAction_setKey, h, Option.map_some, State.setKey_setKey]

theorem State.performAction_refused {n : SceneId} {code : ResultCode} (h : s.recall .panel n = .error code) :
    s.performAction (.recall n) = some (.refusal code, s) := by
  simp only [State.performAction, h]

theorem State.performAction_recalled {n : SceneId} {r : Recalled} (h : s.recall .panel n = .ok r) :
    s.performAction (.recall n) = some (if r.complete then .done else .partly, r.after) := by
  simp only [State.performAction, h]

theorem State.performAction_step (c : CarouselId) :
    s.performAction (.step c) = some (outcomeOf (s.stepCarousel c).code, (s.stepCarousel c).after) := rfl

theorem State.performAction_stop {c : CarouselId} (h : s.carousels[c].asksRunning = true) :
    s.performAction (.toggle c) = some (outcomeOf (s.stopCarousel c).code, (s.stopCarousel c).after) := by
  simp only [State.performAction, h, if_true]

theorem State.performAction_start {c : CarouselId} (h : s.carousels[c].asksRunning = false) :
    s.performAction (.toggle c) = some (outcomeOf (s.startCarousel c).code, (s.startCarousel c).after) := by
  simp only [State.performAction, h, Bool.false_eq_true, if_false]

theorem Carousel.asksRunning_iff {c : Carousel} :
    c.asksRunning = true ↔ c.request = .start ∨ (c.request = .none ∧ c.state = .running) := by
  unfold Carousel.asksRunning
  cases c.request <;> simp

/-! ### The rows of one key -/

theorem Key.changesAt_false {r : Key} {low : Bool} (h : r.pressed = low ∨ r.disagreement < 2) : r.changesAt low = false := by
  rw [← Bool.not_eq_true, Key.changesAt_iff]
  rintro ⟨hne, hle⟩
  rcases h with heq | hlt
  · exact hne heq
  · omega

theorem State.pressKey_eq (s : State) (k : KeyId) :
    s.pressKey k =
      if s.keys[k].enabled then
        (s.setKey k
          { s.keys[k] with pressed := true, disagreement := 0, repeatCount := 0, acted := s.keys[k].enabled }).keyAction k
      else
        s.setKey k
          { s.keys[k] with pressed := true, disagreement := 0, repeatCount := 0, acted := s.keys[k].enabled } := rfl

theorem State.repeatKey_due (h : 49 ≤ s.keys[k].repeatCount) :
    s.repeatKey k =
      if s.keys[k].enabled ∧ s.keys[k].mode = .repeating ∧ s.keys[k].acted then
        (s.setKey k { s.keys[k] with repeatCount := 30 }).keyAction k
      else s.setKey k { s.keys[k] with repeatCount := 30 } := by
  rw [State.repeatKey, if_pos (Key.reachesRepeat_iff.mpr h)]
  rfl

theorem State.repeatKey_counts (h : s.keys[k].repeatCount < 49) :
    s.repeatKey k = s.setKey k { s.keys[k] with repeatCount := s.keys[k].repeatCount + 1 } := by
  rw [State.repeatKey, if_neg (mt Key.reachesRepeat_iff.mp (Nat.not_le.mpr h))]

theorem exec_keyPress_due (h : s.keys[k].changesAt true = true) : exec (.keyPress k) s = .next (s.pressKey k) :=
  congrArg Host.Outcome.next (if_pos h)

theorem exec_keyPress_idle (h : s.keys[k].changesAt true = false) : exec (.keyPress k) s = .next s := by
  show Host.Outcome.next (if s.keys[k].changesAt true then s.pressKey k else s) = _
  rw [h]
  rfl

theorem exec_keyRelease_due (h : s.keys[k].changesAt false = true) : exec (.keyRelease k) s = .next (s.releaseKey k) :=
  congrArg Host.Outcome.next (if_pos h)

theorem exec_keyRelease_idle (h : s.keys[k].changesAt false = false) : exec (.keyRelease k) s = .next s := by
  show Host.Outcome.next (if s.keys[k].changesAt false then s.releaseKey k else s) = _
  rw [h]
  rfl

theorem exec_keyRepeat_due (hpressed : s.keys[k].pressed = true) (h : 49 ≤ s.keys[k].repeatCount) :
    exec (.keyRepeat k) s = .next (s.repeatKey k) := congrArg Host.Outcome.next (if_pos ⟨hpressed, Key.reachesRepeat_iff.mpr h⟩)

theorem exec_keyRepeat_idle (h : s.keys[k].pressed = false ∨ s.keys[k].repeatCount < 49) : exec (.keyRepeat k) s = .next s := by
  refine congrArg Host.Outcome.next (if_neg ?_)
  rintro ⟨hpressed, hreaches⟩
  rcases h with hno | hlt
  · rw [hpressed] at hno
    cases hno
  · exact absurd (Key.reachesRepeat_iff.mp hreaches) (Nat.not_le.mpr hlt)

end

/-- Settles O60: the rows by their conditions, the actions by their kind. -/
theorem keyEventsPerformTheAction : Obligations.KeyEventsPerformTheAction := by
  intro k s old performs pressed repeated
  have hperforms : ∀ (i : Instr) (new : Key), new.action = old.action → exec i s = .next ((s.setKey k new).keyAction k) →
      performs i new := by
    intro i new hnew hi
    have hact : ∀ {o t}, s.performAction old.action = some (o, t) →
        exec i s = .next ((t.setKey k { new with outcome := o }).raise .key) := fun ha => by
      rw [hi, State.keyAction_some (hnew ▸ ha)]
    refine ⟨fun n haction => ⟨fun code hr => ?_, fun r hr => ?_⟩, fun c => ?_⟩
    · exact hact (haction ▸ State.performAction_refused hr)
    · rw [hact (haction ▸ State.performAction_recalled hr), State.recall_frame hr]
      rfl
    · intro running does
      have hrunning : s.carousels[c].asksRunning = true ↔ running := Carousel.asksRunning_iff
      refine ⟨fun haction => hact (haction ▸ State.performAction_step c), fun haction => ⟨fun h => ?_, fun h => ?_⟩⟩
      · exact hact (haction ▸ State.performAction_stop (hrunning.mpr h))
      · exact hact (haction ▸ State.performAction_start (Bool.eq_false_iff.mpr (mt hrunning.mp h)))
  refine ⟨fun hup hcount => ⟨fun hidle => ?_, fun henabled => ?_⟩, fun h => exec_keyPress_idle ?_, fun hdown hcount => ?_, fun h =>
    exec_keyRelease_idle (Key.changesAt_false h), fun hdown hcount => ?_, fun h => exec_keyRepeat_idle h⟩
  · have hchanges : s.keys[k].changesAt true = true := Key.changesAt_iff.mpr ⟨by rw [show s.keys[k].pressed = _ from hup]; nofun, hcount⟩
    rw [exec_keyPress_due hchanges, State.pressKey_eq]
    rcases hidle with hdisabled | hnone
    · exact congrArg Host.Outcome.next (if_neg (by rw [show s.keys[k].enabled = _ from hdisabled]; nofun))
    · rw [State.keyAction_none (by rw [show s.keys[k].action = _ from hnone]; rfl)]
      exact congrArg Host.Outcome.next (ite_self _)
  · have hchanges : s.keys[k].changesAt true = true := Key.changesAt_iff.mpr ⟨by rw [show s.keys[k].pressed = _ from hup]; nofun, hcount⟩
    refine hperforms _ _ rfl ?_
    rw [exec_keyPress_due hchanges, State.pressKey_eq, if_pos henabled]
  · exact Key.changesAt_false h
  · have hchanges : s.keys[k].changesAt false = true := Key.changesAt_iff.mpr ⟨by rw [show s.keys[k].pressed = _ from hdown]; nofun, hcount⟩
    exact exec_keyRelease_due hchanges
  · intro acts
    refine ⟨fun hidle => ?_, fun hacts => hperforms _ _ rfl ?_⟩
    · rw [exec_keyRepeat_due hdown hcount, State.repeatKey_due hcount]
      rcases hidle with hno | hnone
      · exact congrArg Host.Outcome.next (if_neg hno)
      · rw [State.keyAction_none (by rw [show s.keys[k].action = _ from hnone]; rfl)]
        exact congrArg Host.Outcome.next (ite_self _)
    · rw [exec_keyRepeat_due hdown hcount, State.repeatKey_due hcount]
      exact congrArg Host.Outcome.next (if_pos hacts)

end Sys2Proof.Machine
end

section
/-! PROOFS. The scan tick (R104, R132, R133, R161, R162): what each of its events reaches, and that each record takes the tick by its own
event alone, whatever the order. -/

namespace Sys2Proof.Machine

/-! ### What a key reaches -/

/-- Two states that agree on everything but windows, stages, carousels, keys and causes. -/
def sameButKeyEffects (s t : State) : Prop :=
  t = { s with windows := t.windows, stages := t.stages, carousels := t.carousels, keys := t.keys, events := t.events }

section
variable {s t u : State} {k : KeyId}

theorem sameButKeyEffects.trans (h : sameButKeyEffects s t) (g : sameButKeyEffects t u) : sameButKeyEffects s u := by
  rw [sameButKeyEffects] at h g ⊢
  rw [g, h]

theorem sameButKeyEffects.setKey (h : sameButKeyEffects s t) (r : Key) : sameButKeyEffects s (t.setKey k r) :=
  h.trans rfl

theorem sameButKeyEffects.raise (h : sameButKeyEffects s t) (f : Flag) : sameButKeyEffects s (t.raise f) := h.trans rfl

theorem State.carouselAnswer_effects (s : State) (c : CarouselId) :
    (sameButKeyEffects s (s.startCarousel c).after ∧ (s.startCarousel c).after.keys = s.keys) ∧
    (sameButKeyEffects s (s.stopCarousel c).after ∧ (s.stopCarousel c).after.keys = s.keys) ∧
    (sameButKeyEffects s (s.stepCarousel c).after ∧ (s.stepCarousel c).after.keys = s.keys) := by
  have hadvance : sameButKeyEffects s (s.advanceCarousel c) ∧ (s.advanceCarousel c).keys = s.keys := by
    rw [State.advanceCarousel, State.raiseIf_eq]
    exact ⟨rfl, rfl⟩
  refine ⟨?_, ⟨rfl, rfl⟩, ?_⟩
  · unfold State.startCarousel
    split <;> exact ⟨rfl, rfl⟩
  · unfold State.stepCarousel
    split
    · exact ⟨rfl, rfl⟩
    · split
      · exact ⟨rfl, rfl⟩
      · exact hadvance

theorem State.performAction_effects {a : Action} {o : KeyOutcome} (h : s.performAction a = some (o, t)) :
    sameButKeyEffects s t ∧ t.keys = s.keys := by
  match a, h with
  | .none, h => cases h
  | .recall n, h =>
    cases hr : s.recall .panel n with
    | error code =>
      rw [State.performAction_refused hr] at h
      cases h
      exact ⟨rfl, rfl⟩
    | ok r =>
      rw [State.performAction_recalled hr] at h
      cases h
      have hframe := State.recall_frame hr
      exact ⟨by rw [sameButKeyEffects, hframe], by rw [hframe]⟩
  | .step c, h =>
    rw [State.performAction_step] at h
    cases h
    exact (s.carouselAnswer_effects c).2.2
  | .toggle c, h =>
    cases hc : s.carousels[c].asksRunning with
    | true =>
      rw [State.performAction_stop hc] at h
      cases h
      exact (s.carouselAnswer_effects c).2.1
    | false =>
      rw [State.performAction_start hc] at h
      cases h
      exact (s.carouselAnswer_effects c).1

theorem State.keyAction_effects (s : State) (k : KeyId) :
    sameButKeyEffects s (s.keyAction k) ∧ ∃ o, (s.keyAction k).keys = s.keys.set k { s.keys[k] with outcome := o } := by
  unfold State.keyAction
  split
  · exact ⟨rfl, s.keys[k].outcome, (Vector.set_getElem_self _).symm⟩
  · rename_i o t hperform
    obtain ⟨heffects, hkeys⟩ := State.performAction_effects hperform
    refine ⟨(heffects.setKey _).raise .key, o, ?_⟩
    show t.keys.set k { t.keys[k] with outcome := o } = _
    simp only [hkeys]

theorem State.setKey_keyAction (s : State) (k : KeyId) (r : Key) :
    sameButKeyEffects s ((s.setKey k r).keyAction k) ∧ ∃ o, ((s.setKey k r).keyAction k).keys = s.keys.set k { r with outcome := o } := by
  obtain ⟨heffects, o, hkeys⟩ := (s.setKey k r).keyAction_effects k
  refine ⟨sameButKeyEffects.trans (t := s.setKey k r) rfl heffects, o, hkeys.trans ?_⟩
  rw [State.setKey_key, State.setKey_keys, Vector.set_set]

theorem State.setKey_effects (s : State) (k : KeyId) (r : Key) :
    sameButKeyEffects s (s.setKey k r) ∧ ∃ o, (s.setKey k r).keys = s.keys.set k { r with outcome := o } := ⟨rfl, r.outcome, rfl⟩

/-- A PRESSED key after a scan tick that leaves it PRESSED (R162). -/
def Key.repeated (r : Key) : Key := { r with repeatCount := if r.reachesRepeat then 30 else r.repeatCount + 1 }

theorem State.repeatKey_effects (s : State) (k : KeyId) :
    sameButKeyEffects s (s.repeatKey k) ∧ ∃ o, (s.repeatKey k).keys = s.keys.set k { s.keys[k].repeated with outcome := o } := by
  rcases Nat.lt_or_ge s.keys[k].repeatCount 49 with hcount | hcount
  · have hrepeated : s.keys[k].repeated = { s.keys[k] with repeatCount := s.keys[k].repeatCount + 1 } := by
      rw [Key.repeated, if_neg (mt Key.reachesRepeat_iff.mp (Nat.not_le.mpr hcount))]
    rw [State.repeatKey_counts hcount, ← hrepeated]
    exact s.setKey_effects k _
  · have hrepeated : s.keys[k].repeated = { s.keys[k] with repeatCount := 30 } := by
      rw [Key.repeated, if_pos (Key.reachesRepeat_iff.mpr hcount)]
    rw [State.repeatKey_due hcount, ← hrepeated]
    split
    · exact s.setKey_keyAction k _
    · exact s.setKey_effects k _

/-- A key whose sample leaves its debounced state (R161). -/
def Key.settled (r : Key) (low : Bool) : Key := { r with disagreement := if r.pressed = low then 0 else r.disagreement + 1 }

theorem State.keyTick_press (h : s.keys[k].changesAt true = true) : s.keyTick k true = s.pressKey k := if_pos h

theorem State.keyTick_release (h : s.keys[k].changesAt false = true) : s.keyTick k false = s.releaseKey k := if_pos h

theorem State.keyTick_up {low : Bool} (h : s.keys[k].changesAt low = false) (hup : s.keys[k].pressed = false) :
    s.keyTick k low = s.setKey k (s.keys[k].settled low) := by
  rw [State.keyTick, h]
  exact if_neg (Bool.eq_false_iff.mp hup)

theorem State.keyTick_down {low : Bool} (h : s.keys[k].changesAt low = false) (hdown : s.keys[k].pressed = true) :
    s.keyTick k low = (s.setKey k (s.keys[k].settled low)).repeatKey k := by
  rw [State.keyTick, h]
  exact if_pos hdown

/-- A key after its sample, but for its last outcome (R161, R162). -/
def Key.sampled (r : Key) (low : Bool) : Key :=
  if r.changesAt low then { r with pressed := low, disagreement := 0, repeatCount := 0, acted := low && r.enabled }
  else if r.pressed then (r.settled low).repeated
  else r.settled low

theorem Key.sampled_changes {r : Key} {low : Bool} (h : r.changesAt low = true) :
    r.sampled low = { r with pressed := low, disagreement := 0, repeatCount := 0, acted := low && r.enabled } := if_pos h

theorem Key.sampled_down {r : Key} {low : Bool} (h : r.changesAt low = false) (hdown : r.pressed = true) :
    r.sampled low = (r.settled low).repeated := by
  rw [Key.sampled, h]
  exact if_pos hdown

theorem Key.sampled_up {r : Key} {low : Bool} (h : r.changesAt low = false) (hup : r.pressed = false) :
    r.sampled low = r.settled low := by
  rw [Key.sampled, h]
  exact if_neg (Bool.eq_false_iff.mp hup)

theorem State.keyTick_effects (s : State) (k : KeyId) (low : Bool) :
    sameButKeyEffects s (s.keyTick k low) ∧
      ∃ o, (s.keyTick k low).keys = s.keys.set k { s.keys[k].sampled low with outcome := o } := by
  cases hchanges : s.keys[k].changesAt low with
  | true =>
    rw [Key.sampled_changes hchanges]
    cases low with
    | true =>
      rw [State.keyTick_press hchanges, State.pressKey_eq]
      split
      · exact s.setKey_keyAction k _
      · exact s.setKey_effects k _
    | false =>
      rw [State.keyTick_release hchanges]
      exact s.setKey_effects k _
  | false =>
    cases hpressed : s.keys[k].pressed with
    | false =>
      rw [State.keyTick_up hchanges hpressed, Key.sampled_up hchanges hpressed]
      exact s.setKey_effects k _
    | true =>
      obtain ⟨heffects, o, hkeys⟩ := (s.setKey k (s.keys[k].settled low)).repeatKey_effects k
      rw [State.keyTick_down hchanges hpressed, Key.sampled_down hchanges hpressed]
      refine ⟨sameButKeyEffects.trans (t := s.setKey k (s.keys[k].settled low)) rfl heffects, o, hkeys.trans ?_⟩
      rw [State.setKey_key, State.setKey_keys, Vector.set_set]

end

/-! ### The order of the events (log 5) -/

theorem allParts_nodup : TickPart.all.Nodup := by decide

/-- Members are taken in turn, each the first time it comes. -/
def takeNew (done : List TickPart) (p : TickPart) : List TickPart := if done.contains p then done else done ++ [p]

theorem foldl_takeNew {l : List TickPart} (hl : l.Nodup) (done : List TickPart) :
    l.foldl takeNew done = done ++ l.filter fun p => ¬ p ∈ done := by
  induction l generalizing done with
  | nil => simp
  | cons p l ih =>
    obtain ⟨hp, hl⟩ := List.nodup_cons.mp hl
    rw [List.foldl_cons, ih hl]
    by_cases hmem : p ∈ done
    · rw [takeNew, if_pos (by simpa using hmem), List.filter_cons_of_neg (by simpa using hmem)]
    · rw [takeNew, if_neg (by simpa using hmem), List.filter_cons_of_pos (by simpa using hmem), List.append_assoc,
        List.singleton_append]
      congr 2
      refine List.filter_congr fun q hq => ?_
      have hqp : q ≠ p := fun heq => hp (heq ▸ hq)
      simp [hqp]

theorem tickOrder_eq {first : List TickPart} (h : first.Nodup) :
    tickOrder first = first ++ TickPart.all.filter fun p => ¬ p ∈ first := by
  have hfirst : first.foldl takeNew [] = first := by
    rw [foldl_takeNew h, List.nil_append, List.filter_eq_self]
    simp
  show (first ++ TickPart.all).foldl takeNew [] = _
  rw [List.foldl_append, hfirst, foldl_takeNew allParts_nodup]

/-! ### One record, one event -/

section
variable {α β : Type} {f : State → α → State}

/-- What only one step of a fold touches is as that step makes it. -/
theorem foldl_once {obs : State → β} {new : β → β} {b : α} (hself : ∀ s, obs (f s b) = new (obs s))
    (hother : ∀ s a, a ≠ b → obs (f s a) = obs s) {l : List α} (hl : l.Nodup) (hb : b ∈ l) (s : State) :
    obs (l.foldl f s) = new (obs s) := by
  induction l generalizing s with
  | nil => cases hb
  | cons a l ih =>
    obtain ⟨ha, hl⟩ := List.nodup_cons.mp hl
    rw [List.foldl_cons]
    rcases List.mem_cons.mp hb with rfl | hb
    · have hrest : ∀ (m : List α) (u : State), b ∉ m → obs (m.foldl f u) = obs u := by
        intro m
        induction m with
        | nil => exact fun _ _ => rfl
        | cons c m ihm =>
          intro u hm
          rw [List.foldl_cons, ihm _ fun hmem => hm (List.mem_cons_of_mem _ hmem),
            hother u c fun heq => hm (heq ▸ List.mem_cons_self ..)]
      rw [hrest l _ ha, hself]
    · rw [ih hl hb, hother s a fun heq => ha (heq ▸ hb)]

end

section
variable {s : State} {lines : Byte} {due : Bool} {i : InputId} {k : KeyId}

/-- An input after a scan tick, the timeout known (R104). -/
def Input.ticked (p : Input) (timeout : Nat) : Input :=
  if p.presence = .absent then p
  else if timeout ≤ p.lossCount + 1 then
    { p with
      presence := .absent
      inProgress := .none
      lossCount := p.lossCount + 1
      changed := p.changed || p.presence.isPresent }
  else { p with lossCount := p.lossCount + 1 }

theorem State.lossTick_input (s : State) (i j : InputId) :
    (s.lossTick i).inputs[j] = if i = j then s.inputs[i].ticked s.lossTimeout else s.inputs[j] := by
  unfold Input.ticked
  by_cases habsent : s.inputs[i].presence = .absent
  · rw [State.lossTick_absent habsent, if_pos habsent]
    split
    · rename_i hij
      rw [hij]
    · rfl
  · rw [if_neg habsent]
    by_cases hcount : s.lossTimeout ≤ s.inputs[i].lossCount + 1
    · rw [State.lossTick_loses (State.losesInput_iff.mpr ⟨habsent, hcount⟩), State.raiseIf_inputs, if_pos hcount]
      exact vector_get_set ..
    · rw [State.lossTick_counts habsent (Bool.eq_false_iff.mpr fun hloses => hcount (State.losesInput_iff.mp hloses).2), if_neg hcount]
      exact vector_get_set ..

/-- The part of a state that no key reaches. -/
theorem State.keyTick_keeps {β : Type} (g : State → β)
    (hg : ∀ (u : State) ws gs cs ks e, g { u with windows := ws, stages := gs, carousels := cs, keys := ks, events := e } = g u)
    (s : State) (k : KeyId) (low : Bool) : g (s.keyTick k low) = g s := by
  rw [(s.keyTick_effects k low).1, hg]

theorem State.keyTick_key (s : State) (k j : KeyId) (low : Bool) :
    ∃ o, (s.keyTick k low).keys[j] = if k = j then { s.keys[k].sampled low with outcome := o } else s.keys[j] := by
  obtain ⟨-, o, hkeys⟩ := s.keyTick_effects k low
  exact ⟨o, by rw [hkeys]; exact vector_get_set ..⟩

/-- What no event of a scan tick reaches. -/
theorem State.tickPart_keeps {β : Type} (g : State → β) (hloss : ∀ u i, g (u.lossTick i) = g u)
    (hkey : ∀ (u : State) ws gs cs ks e, g { u with windows := ws, stages := gs, carousels := cs, keys := ks, events := e } = g u)
    (hdwell : ∀ u, g u.dwellTick = g u) (s : State) (p : TickPart) : g (State.tickPart lines due s p) = g s := by
  cases p with
  | loss i => exact hloss s i
  | key k => exact s.keyTick_keeps g hkey k _
  | dwell =>
    show g (if due then s.dwellTick else s) = _
    split
    · exact hdwell s
    · rfl

theorem State.tickPart_timebase_other {p : TickPart} (h : p ≠ .dwell) : (State.tickPart lines due s p).timebase = s.timebase := by
  cases p with
  | loss i => exact s.lossTick_timebase i
  | key k => exact s.keyTick_keeps State.timebase (fun _ _ _ _ _ _ => rfl) k _
  | dwell => exact absurd rfl h

theorem State.tickPart_input_other {p : TickPart} (h : p ≠ .loss i) : (State.tickPart lines due s p).inputs[i] = s.inputs[i] := by
  cases p with
  | loss j => exact (s.lossTick_input j i).trans (if_neg fun heq => h (congrArg TickPart.loss heq))
  | key k => exact s.keyTick_keeps (fun u => u.inputs[i]) (fun _ _ _ _ _ _ => rfl) k _
  | dwell =>
    show (if due then s.dwellTick else s).inputs[i] = _
    split
    · exact congrArg (fun v : Vector Input 12 => v[i]) s.dwellTick_inputs
    · rfl

/-- A key, its last outcome left out. -/
def State.keyBut (s : State) (k : KeyId) : Key := { s.keys[k] with outcome := .none }

theorem State.tickPart_key_other {p : TickPart} (h : p ≠ .key k) : (State.tickPart lines due s p).keyBut k = s.keyBut k := by
  cases p with
  | loss i => exact congrArg (fun ks : Vector Key 8 => { ks[k] with outcome := .none }) (s.lossTick_keys i)
  | key j =>
    obtain ⟨o, hkey⟩ := s.keyTick_key j k (!lines.getLsbD j)
    rw [if_neg fun heq => h (congrArg TickPart.key heq)] at hkey
    exact congrArg (fun r : Key => { r with outcome := .none }) hkey
  | dwell =>
    show (if due then s.dwellTick else s).keyBut k = _
    split
    · exact congrArg (fun ks : Vector Key 8 => { ks[k] with outcome := .none }) s.dwellTick_keys
    · rfl

theorem Key.sampled_but (r : Key) (low : Bool) :
    { r.sampled low with outcome := .none } = { ({ r with outcome := .none } : Key).sampled low with outcome := .none } := by
  have hchanges : ({ r with outcome := .none } : Key).changesAt low = r.changesAt low := rfl
  unfold Key.sampled
  rw [hchanges]
  cases r.changesAt low with
  | true => rfl
  | false =>
    show ({ (if r.pressed then (r.settled low).repeated else r.settled low) with outcome := .none } : Key) =
      { (if r.pressed then (({ r with outcome := .none } : Key).settled low).repeated
          else ({ r with outcome := .none } : Key).settled low) with outcome := .none }
    split <;> rfl

end

/-! ### The scan tick as a fold over its events -/

section
variable (s : State) (first : List TickPart) (lines : Byte)

/-- A scan tick before its events (R132). -/
def State.scanned : State :=
  { s with timebase := s.timebase.scan, events := s.events.pass s.timebase.cyclesLeft, keyLines := lines }

theorem State.scanTick_eq :
    s.scanTick first lines = (tickOrder first).foldl (State.tickPart lines s.timebase.scanCompletes) (s.scanned lines) := rfl

theorem State.scanTick_keeps {β : Type} (g : State → β) (hloss : ∀ u i, g (State.lossTick u i) = g u)
    (hkey : ∀ (u : State) ws gs cs ks e, g { u with windows := ws, stages := gs, carousels := cs, keys := ks, events := e } = g u)
    (hdwell : ∀ u, g (State.dwellTick u) = g u) : g (s.scanTick first lines) = g (s.scanned lines) :=
  foldl_keeps g _ (fun u p => State.tickPart_keeps g hloss hkey hdwell u p) _ _

theorem State.scanTick_timebase :
    (s.scanTick first lines).timebase = if s.timebase.scanCompletes then s.timebase.scan.dwell else s.timebase.scan := by
  obtain ⟨hnodup, hmem⟩ := tickOrder_complete first
  refine foldl_once (f := State.tickPart lines s.timebase.scanCompletes) (obs := State.timebase)
    (new := fun b => if s.timebase.scanCompletes then b.dwell else b) (b := .dwell) (fun u => ?_)
    (fun u a ha => State.tickPart_timebase_other ha) hnodup (hmem .dwell) (s.scanned lines)
  show (if s.timebase.scanCompletes then u.dwellTick else u).timebase = _
  split
  · exact u.dwellTick_timebase
  · rfl

theorem State.scanTick_input (i : InputId) : (s.scanTick first lines).inputs[i] = s.inputs[i].ticked s.lossTimeout := by
  obtain ⟨hnodup, hmem⟩ := tickOrder_complete first
  have htimeout : ∀ u p, (State.tickPart lines s.timebase.scanCompletes u p).lossTimeout = u.lossTimeout := fun u p =>
    State.tickPart_keeps State.lossTimeout State.lossTick_lossTimeout (fun _ _ _ _ _ _ => rfl) State.dwellTick_lossTimeout u p
  have hfold := foldl_once (f := State.tickPart lines s.timebase.scanCompletes) (obs := fun u => (u.inputs[i], u.lossTimeout))
    (new := fun p => (p.1.ticked p.2, p.2)) (b := .loss i)
    (fun u => Prod.ext ((u.lossTick_input i i).trans (if_pos rfl)) (htimeout u (.loss i)))
    (fun u a ha => Prod.ext (State.tickPart_input_other ha) (htimeout u a)) hnodup (hmem (.loss i)) (s.scanned lines)
  obtain ⟨hinput, -⟩ := Prod.ext_iff.mp hfold
  exact hinput

theorem State.scanTick_key (k : KeyId) :
    ∃ o, (s.scanTick first lines).keys[k] = { s.keys[k].sampled (!lines.getLsbD k) with outcome := o } := by
  obtain ⟨hnodup, hmem⟩ := tickOrder_complete first
  have hfold := foldl_once (f := State.tickPart lines s.timebase.scanCompletes) (obs := fun u => u.keyBut k)
    (new := fun r => { r.sampled (!lines.getLsbD k) with outcome := .none }) (b := .key k)
    (fun u => by
      obtain ⟨o, hkey⟩ := u.keyTick_key k k (!lines.getLsbD k)
      rw [if_pos rfl] at hkey
      refine (congrArg (fun r : Key => { r with outcome := .none }) hkey).trans ?_
      exact Key.sampled_but _ _)
    (fun u a ha => State.tickPart_key_other ha) hnodup (hmem (.key k)) (s.scanned lines)
  refine ⟨(s.scanTick first lines).keys[k].outcome, ?_⟩
  exact congrArg (fun r : Key => { r with outcome := (s.scanTick first lines).keys[k].outcome }) (hfold.trans (Key.sampled_but _ _).symm)

end

end Sys2Proof.Machine
end

section
/-! PROOFS. A scan tick reaches every record (O50). -/

namespace Sys2Proof.Machine

section
variable {r : Key} {low : Bool}

theorem Key.sampled_settings (r : Key) (low : Bool) :
    (r.sampled low).enabled = r.enabled ∧ (r.sampled low).mode = r.mode ∧ (r.sampled low).action = r.action := by
  unfold Key.sampled
  split
  · exact ⟨rfl, rfl, rfl⟩
  · split <;> exact ⟨rfl, rfl, rfl⟩

theorem Key.sampled_settles (h : r.changesAt low = false) :
    (r.sampled low).pressed = r.pressed ∧ (r.sampled low).acted = r.acted ∧
      (r.sampled low).disagreement = if r.pressed = low then 0 else r.disagreement + 1 := by
  cases hpressed : r.pressed with
  | false =>
    rw [Key.sampled_up h hpressed, ← hpressed]
    exact ⟨rfl, rfl, rfl⟩
  | true =>
    rw [Key.sampled_down h hpressed, ← hpressed]
    exact ⟨rfl, rfl, rfl⟩

theorem Key.sampled_repeatCount (h : r.changesAt low = false) (hdown : r.pressed = true) :
    (r.sampled low).repeatCount = if 49 ≤ r.repeatCount then 30 else r.repeatCount + 1 := by
  rw [Key.sampled_down h hdown]
  show (if (r.settled low).reachesRepeat then 30 else r.repeatCount + 1) = _
  simp only [Key.reachesRepeat_iff, Key.settled]

end

section
variable (s : State)

theorem exec_scanTick {s : State} (h : s.startup ≠ .held) (first : List TickPart) (lines : Byte) :
    exec (.scanTick first lines) s = .next (s.scanTick first lines) := congrArg Host.Outcome.next (if_neg h)

theorem exec_scanTick_held {s : State} (h : s.startup = .held) (first : List TickPart) (lines : Byte) :
    exec (.scanTick first lines) s = .next s := congrArg Host.Outcome.next (if_pos h)

theorem Timebase.scanCompletes_iff {b : Timebase} : b.scanCompletes = true ↔ 9 ≤ b.scanTicks := by
  rw [Timebase.scanCompletes, decide_eq_true_iff]
  omega

theorem Timebase.scanCompletes_false {b : Timebase} (h : b.scanTicks < 9) : b.scanCompletes = false := by
  rw [← Bool.not_eq_true, Timebase.scanCompletes_iff]
  omega

end

section
variable {u : State} {lines : Byte} {due : Bool} {i : InputId} {k : KeyId}

theorem State.tickPart_loss_counts (hpresence : u.inputs[i].presence ≠ .absent) (h : u.inputs[i].lossCount + 1 < u.lossTimeout) :
    State.tickPart lines due u (.loss i) = u.setInput i { u.inputs[i] with lossCount := u.inputs[i].lossCount + 1 } :=
  State.lossTick_counts hpresence (Bool.eq_false_iff.mpr fun hloses => Nat.not_le.mpr h (State.losesInput_iff.mp hloses).2)

theorem State.tickPart_loss_loses (hpresence : u.inputs[i].presence ≠ .absent) (h : u.lossTimeout ≤ u.inputs[i].lossCount + 1) :
    exec (.lossTimeout i) u = .next (State.tickPart lines due u (.loss i)) :=
  congrArg Host.Outcome.next (if_pos (State.losesInput_iff.mpr ⟨hpresence, h⟩))

theorem State.tickPart_key_press (hup : u.keys[k].pressed = false) (hlow : (!lines.getLsbD k) = true) (h : 2 ≤ u.keys[k].disagreement) :
    exec (.keyPress k) u = .next (State.tickPart lines due u (.key k)) := by
  have hchanges : u.keys[k].changesAt true = true := Key.changesAt_iff.mpr ⟨by rw [hup]; decide, h⟩
  show _ = Host.Outcome.next (u.keyTick k (!lines.getLsbD k))
  rw [hlow, State.keyTick_press hchanges, exec_keyPress_due hchanges]

theorem State.tickPart_key_release (hdown : u.keys[k].pressed = true) (hlow : (!lines.getLsbD k) = false) (h : 2 ≤ u.keys[k].disagreement) :
    exec (.keyRelease k) u = .next (State.tickPart lines due u (.key k)) := by
  have hchanges : u.keys[k].changesAt false = true := Key.changesAt_iff.mpr ⟨by rw [hdown]; decide, h⟩
  show _ = Host.Outcome.next (u.keyTick k (!lines.getLsbD k))
  rw [hlow, State.keyTick_release hchanges, exec_keyRelease_due hchanges]

theorem State.tickPart_key_counts (h : u.keys[k].changesAt (!lines.getLsbD k) = false) (hdown : u.keys[k].pressed = true)
    (hcount : u.keys[k].repeatCount + 1 < 50) :
    State.tickPart lines due u (.key k) =
      u.setKey k { u.keys[k].settled (!lines.getLsbD k) with repeatCount := u.keys[k].repeatCount + 1 } := by
  have hkey : (u.setKey k (u.keys[k].settled (!lines.getLsbD k))).keys[k] = u.keys[k].settled (!lines.getLsbD k) := State.setKey_key ..
  show u.keyTick k _ = _
  rw [State.keyTick_down h hdown, State.repeatKey_counts (by rw [hkey]; exact Nat.lt_of_succ_lt_succ hcount), hkey, State.setKey_setKey]
  rfl

theorem State.tickPart_key_repeat (h : u.keys[k].changesAt (!lines.getLsbD k) = false) (hdown : u.keys[k].pressed = true)
    (hcount : 50 ≤ u.keys[k].repeatCount + 1) :
    exec (.keyRepeat k) (u.setKey k (u.keys[k].settled (!lines.getLsbD k))) = .next (State.tickPart lines due u (.key k)) := by
  have hkey : (u.setKey k (u.keys[k].settled (!lines.getLsbD k))).keys[k] = u.keys[k].settled (!lines.getLsbD k) := State.setKey_key ..
  show _ = Host.Outcome.next (u.keyTick k (!lines.getLsbD k))
  rw [State.keyTick_down h hdown,
    exec_keyRepeat_due (by rw [hkey]; exact hdown) (by rw [hkey]; exact Nat.le_of_succ_le_succ hcount)]

end

/-- Settles O50: the tick is the fold of its events over the records, and each record takes the tick by the event of its own. -/
theorem scanTickReachesEveryRecord : Obligations.ScanTickReachesEveryRecord := by
  unfold Obligations.ScanTickReachesEveryRecord
  refine ⟨rfl, fun first lines s => ⟨fun hheld => exec_scanTick_held hheld first lines, fun hs => ?_⟩⟩
  have htimebase := s.scanTick_timebase first lines
  refine ⟨_, exec_scanTick hs first lines, ?phase, ?cycles, ?scanTicks, ?noDwell, ?dwell, ?inputs, ?keys, ?scenes, ?port, ?startup,
    ?lossTimeout, ?expirySetting, ?keyLines, ?order⟩
  case phase | cycles | scanTicks =>
    rw [htimebase]
    split <;> rfl
  case noDwell =>
    intro h
    rw [htimebase, Timebase.scanCompletes_false h]
    rfl
  case dwell =>
    intro h
    rw [htimebase, if_pos (Timebase.scanCompletes_iff.mpr h)]
    rfl
  case inputs =>
    intro i
    rw [s.scanTick_input first lines i, Input.ticked]
    refine ⟨fun habsent => if_pos habsent, fun hpresence => ?_⟩
    rw [if_neg hpresence]
    exact ⟨fun h => if_neg (Nat.not_le.mpr h), fun h => if_pos h⟩
  case keys =>
    intro k old low changes
    obtain ⟨o, hkey⟩ := s.scanTick_key first lines k
    rw [hkey]
    refine ⟨old.sampled_settings low, fun h => ?_, fun h => ?_⟩
    · rw [Key.sampled_changes (Key.changesAt_iff.mpr h)]
      exact ⟨rfl, rfl, rfl, rfl⟩
    · have hchanges : old.changesAt low = false := Bool.eq_false_iff.mpr (mt Key.changesAt_iff.mp h)
      obtain ⟨hpressed, hacted, hdisagreement⟩ := Key.sampled_settles hchanges
      refine ⟨hpressed, hacted, fun heq => hdisagreement.trans (if_pos heq), fun hne => hdisagreement.trans (if_neg hne),
        fun hup => ?_, fun hdown hcount => ?_, fun hdown hcount => ?_⟩
      · rw [Key.sampled_up hchanges hup]
        rfl
      · exact (Key.sampled_repeatCount hchanges hdown).trans (if_neg (by omega))
      · exact (Key.sampled_repeatCount hchanges hdown).trans (if_pos (by omega))
  case scenes => exact s.scanTick_keeps first lines State.scenes State.lossTick_scenes (fun _ _ _ _ _ _ => rfl) State.dwellTick_scenes
  case port => exact s.scanTick_keeps first lines State.port State.lossTick_port (fun _ _ _ _ _ _ => rfl) State.dwellTick_port
  case startup => exact s.scanTick_keeps first lines State.startup State.lossTick_startup (fun _ _ _ _ _ _ => rfl) State.dwellTick_startup
  case lossTimeout =>
    exact s.scanTick_keeps first lines State.lossTimeout State.lossTick_lossTimeout (fun _ _ _ _ _ _ => rfl) State.dwellTick_lossTimeout
  case expirySetting =>
    exact s.scanTick_keeps first lines State.expirySetting State.lossTick_expirySetting (fun _ _ _ _ _ _ => rfl)
      State.dwellTick_expirySetting
  case keyLines =>
    exact s.scanTick_keeps first lines State.keyLines State.lossTick_keyLines (fun _ _ _ _ _ _ => rfl) State.dwellTick_keyLines
  case order =>
    intro hnodup
    refine ⟨fun p u => State.tickPart lines s.timebase.scanCompletes u p, ?_, fun u hu => ⟨fun i => ?_, ?_, fun h => ?_, fun h => ?_⟩⟩
    · rw [← tickOrder_eq hnodup]
      exact s.scanTick_eq first lines
    · exact ⟨State.lossTick_absent, State.tickPart_loss_counts, State.tickPart_loss_loses⟩
    · intro k old low sampled
      refine ⟨State.tickPart_key_press, State.tickPart_key_release, fun h => ?_⟩
      have hchanges : old.changesAt low = false := Key.changesAt_false h
      exact ⟨State.keyTick_up hchanges, State.tickPart_key_counts hchanges, State.tickPart_key_repeat hchanges⟩
    · rw [exec_dwellTick hu]
      exact congrArg Host.Outcome.next (if_pos (Timebase.scanCompletes_iff.mpr h)).symm
    · exact if_neg (Bool.eq_false_iff.mp (Timebase.scanCompletes_false h))

end Sys2Proof.Machine
end

section
/-! PROOFS. The attention line (O22, R180, R181). -/

namespace Sys2Proof.Machine

/-! ### The line and the flags -/

/-- The flag at a bit of the event bytes. -/
theorem Flag.exists_bit {n : Nat} (h : n < 8) : ∃ f : Flag, f.bit = n := by
  match n, h with
  | 0, _ => exact ⟨.ready, rfl⟩
  | 1, _ => exact ⟨.input, rfl⟩
  | 2, _ => exact ⟨.key, rfl⟩
  | 3, _ => exact ⟨.expired, rfl⟩
  | 4, _ => exact ⟨.probe, rfl⟩
  | 5, _ => exact ⟨.carousel, rfl⟩
  | 6, _ => exact ⟨.standby, rfl⟩
  | 7, _ => exact ⟨.slated, rfl⟩

theorem BitVec.ne_zero_iff_getLsbD {n : Nat} (v : BitVec n) : v ≠ 0#n ↔ ∃ k, v.getLsbD k = true := by
  refine ⟨fun hne => ?_, fun ⟨k, hk⟩ hzero => ?_⟩
  · by_contra hnone
    refine hne (BitVec.eq_of_getLsbD_eq fun k _ => ?_)
    rw [BitVec.getLsbD_zero, ← Bool.not_eq_true]
    exact fun hk => hnone ⟨k, hk⟩
  · rw [hzero, BitVec.getLsbD_zero] at hk
    cases hk

theorem EventUnit.attention_level {e : EventUnit} (h : e.lineMode = .level) :
    e.attention = true ↔ ∃ g : Flag, e.isSet g = true ∧ e.isEnabled g = true := by
  have hattention : e.attention = (e.flags &&& e.mask != 0#8) := by
    unfold EventUnit.attention
    rw [h]
  have hbit : ∀ k, (e.flags &&& e.mask).getLsbD k = true ↔ e.flags.getLsbD k = true ∧ e.mask.getLsbD k = true := fun k => by
    rw [BitVec.getLsbD_and, Bool.and_eq_true]
  rw [hattention, bne_iff_ne, BitVec.ne_zero_iff_getLsbD]
  refine ⟨fun ⟨k, hk⟩ => ?_, fun ⟨g, hg⟩ => ⟨g.bit, (hbit g.bit).mpr hg⟩⟩
  obtain ⟨hset, henabled⟩ := (hbit k).mp hk
  obtain ⟨g, rfl⟩ := Flag.exists_bit (Nat.lt_of_not_le fun hle => by
    rw [BitVec.getLsbD_of_ge _ _ hle] at hset
    cases hset)
  exact ⟨g, hset, henabled⟩

theorem EventUnit.attention_pulse {e : EventUnit} (h : e.lineMode = .pulse) : e.attention = decide (0 < e.pulseLeft) := by
  unfold EventUnit.attention
  rw [h]

theorem EventUnit.raise_starts {e : EventUnit} {f : Flag} (hmode : e.lineMode = .pulse) (hset : e.isSet f = false)
    (henabled : e.isEnabled f = true) : (e.raise f).pulseLeft = 2 := by
  rw [EventUnit.raise, if_neg (Bool.eq_false_iff.mp hset)]
  exact if_pos ⟨hmode, henabled⟩

theorem EventUnit.raise_leaves {e : EventUnit} {f : Flag} (h : e.isSet f = true ∨ e.isEnabled f = false) :
    (e.raise f).pulseLeft = e.pulseLeft := by
  rw [EventUnit.raise]
  split
  · rfl
  · rename_i hset
    exact if_neg fun ⟨_, henabled⟩ => h.elim hset fun hdisabled => Bool.eq_false_iff.mp hdisabled henabled

/-! ### The end of a pulse -/

section
variable {s : State}

/-- The part after n cycles inside an interval. -/
def State.cyclesPass (s : State) (n : Nat) : State :=
  { s with timebase := { s.timebase with cycles := s.timebase.cycles + n }, events := s.events.pass n }

theorem State.runPulse_succ {fuel : Nat} (h : s.events.pulseLeft ≠ 0) : s.runPulse (fuel + 1) = s.cycle.runPulse fuel := if_neg h

theorem State.cycle_inside (h : s.timebase.cycles + 1 < intervalLength s.timebase.phase) : s.cycle = s.cyclesPass 1 := if_pos h

theorem State.cycle_ends (h : intervalLength s.timebase.phase ≤ s.timebase.cycles + 1) : s.cycle = s.scanTick [] s.keyLines :=
  if_neg (Nat.not_lt.mpr h)

theorem State.cyclesPass_cyclesPass (s : State) (m n : Nat) : (s.cyclesPass m).cyclesPass n = s.cyclesPass (m + n) := by
  simp only [State.cyclesPass, EventUnit.pass, Nat.sub_sub, Nat.add_assoc]

theorem State.runPulse_inside {n fuel : Nat} (hn : n ≤ s.events.pulseLeft)
    (hinside : s.timebase.cycles + n < intervalLength s.timebase.phase) :
    s.runPulse (n + fuel) = (s.cyclesPass n).runPulse fuel := by
  induction n generalizing s with
  | zero =>
    rw [Nat.zero_add]
    rfl
  | succ n ih =>
    rw [Nat.add_right_comm, State.runPulse_succ (by omega), State.cycle_inside (by omega), ih, State.cyclesPass_cyclesPass,
      Nat.add_comm 1 n]
    · show n ≤ s.events.pulseLeft - 1
      omega
    · show s.timebase.cycles + 1 + n < intervalLength s.timebase.phase
      omega

/-- A pulse that ends inside the interval. -/
theorem State.runPulse_ends (hinside : s.timebase.cycles + s.events.pulseLeft < intervalLength s.timebase.phase) (fuel : Nat) :
    s.runPulse (s.events.pulseLeft + fuel) = s.cyclesPass s.events.pulseLeft := by
  rw [State.runPulse_inside Nat.le.refl hinside]
  exact State.runPulse_of_pulseLeft_eq_zero (Nat.sub_self _) fuel

/-- The scan tick is the same from every cycle of the interval: the cycles left of it pass first (R132). -/
theorem State.scanTick_cyclesPass {n : Nat} (h : s.timebase.cycles + n ≤ intervalLength s.timebase.phase) :
    (s.cyclesPass n).scanTick [] (s.cyclesPass n).keyLines = s.scanTick [] s.keyLines := by
  have hleft : n + (intervalLength s.timebase.phase - (s.timebase.cycles + n)) = s.timebase.cyclesLeft := by
    rw [Timebase.cyclesLeft]
    omega
  have hscanned : (s.cyclesPass n).scanned s.keyLines = s.scanned s.keyLines := by
    show { s with
      timebase := s.timebase.scan
      events := (s.events.pass n).pass (intervalLength s.timebase.phase - (s.timebase.cycles + n))
      keyLines := s.keyLines } = s.scanned s.keyLines
    rw [State.scanned, EventUnit.pass, EventUnit.pass, Nat.sub_sub, hleft, EventUnit.pass]
  have hlines : (s.cyclesPass n).keyLines = s.keyLines := rfl
  have hdue : (s.cyclesPass n).timebase.scanCompletes = s.timebase.scanCompletes := rfl
  rw [State.scanTick_eq, State.scanTick_eq, hlines, hdue, hscanned]

/-- A pulse that reaches the end of the interval goes on from the scan tick. -/
theorem State.runPulse_toTick {fuel : Nat} (hcycles : s.timebase.cycles < intervalLength s.timebase.phase)
    (hreaches : intervalLength s.timebase.phase ≤ s.timebase.cycles + s.events.pulseLeft) :
    s.runPulse (s.timebase.cyclesLeft + fuel) = (s.scanTick [] s.keyLines).runPulse fuel := by
  obtain ⟨n, hn⟩ : ∃ n, s.timebase.cyclesLeft = n + 1 := ⟨s.timebase.cyclesLeft - 1, by rw [Timebase.cyclesLeft]; omega⟩
  have hlast : s.timebase.cycles + n + 1 = intervalLength s.timebase.phase := by
    rw [Timebase.cyclesLeft] at hn
    omega
  have hpulse : (s.cyclesPass n).events.pulseLeft ≠ 0 := by
    show s.events.pulseLeft - n ≠ 0
    omega
  rw [hn, Nat.add_assoc, State.runPulse_inside (by omega) (by omega), Nat.add_comm 1 fuel, State.runPulse_succ hpulse,
    State.cycle_ends (s := s.cyclesPass n) hlast.ge, State.scanTick_cyclesPass (by omega)]

theorem exec_pulseEnd (h : s.startup ≠ .held) : exec .pulseEnd s = .next (s.runPulse (s.events.pulseLeft + 2)) :=
  congrArg Host.Outcome.next (if_neg h)

theorem exec_pulseEnd_held (h : s.startup = .held) :
    exec .pulseEnd s = .next { s with events := { s.events with pulseLeft := 0 } } := by
  refine congrArg Host.Outcome.next ((if_pos h).trans ?_)
  rw [EventUnit.pass, Nat.sub_self]

theorem two_lt_intervalLength (phase : Nat) : 2 < intervalLength phase := by
  unfold intervalLength
  split <;> decide

/-- The scan tick restarts the pulse with two cycles at most, and they pass inside the new interval. -/
theorem State.scanTick_pulse (h : s.CountLaw) (fuel : Nat) :
    (s.scanTick [] s.keyLines).runPulse ((s.scanTick [] s.keyLines).events.pulseLeft + fuel) =
        (s.scanTick [] s.keyLines).cyclesPass (s.scanTick [] s.keyLines).events.pulseLeft ∧
      (s.scanTick [] s.keyLines).events.pulseLeft ≤ 2 := by
  have hlaw : (s.scanTick [] s.keyLines).CountLaw :=
    (Moves.scanTick (i := .scanTick [] s.keyLines) s [] s.keyLines).keeps (P := State.CountLaw)
      (fun _ _ hchange hlaw => hchange.keeps_countLaw hlaw) h
  obtain ⟨_, _, _, _, _, _, _, _, hpulse⟩ := hlaw
  have hcycles : (s.scanTick [] s.keyLines).timebase.cycles = 0 := by
    rw [State.scanTick_timebase]
    split <;> rfl
  refine ⟨State.runPulse_ends ?_ fuel, hpulse⟩
  rw [hcycles, Nat.zero_add]
  exact hpulse.trans_lt (two_lt_intervalLength _)

theorem exec_pulseEnd_toTick (hs : s.startup ≠ .held) (hlaw : s.CountLaw)
    (hreaches : intervalLength s.timebase.phase ≤ s.timebase.cycles + s.events.pulseLeft) :
    ∃ u t, exec (.scanTick [] s.keyLines) s = .next u ∧ exec .pulseEnd u = .next t ∧ exec .pulseEnd s = .next t ∧
      t.events.pulseLeft = 0 := by
  have ⟨_, _, _, _, _, _, ⟨_, hcycles, _⟩, _, _⟩ := hlaw
  have hstartup : (s.scanTick [] s.keyLines).startup = s.startup :=
    s.scanTick_keeps [] s.keyLines State.startup State.lossTick_startup (fun _ _ _ _ _ _ => rfl) State.dwellTick_startup
  obtain ⟨-, hpulse⟩ := State.scanTick_pulse hlaw 0
  have hleft : s.timebase.cyclesLeft ≤ s.events.pulseLeft := by
    rw [Timebase.cyclesLeft]
    omega
  obtain ⟨fuel, hfuel⟩ : ∃ fuel, s.events.pulseLeft + 2 =
      s.timebase.cyclesLeft + ((s.scanTick [] s.keyLines).events.pulseLeft + fuel) :=
    ⟨s.events.pulseLeft + 2 - s.timebase.cyclesLeft - (s.scanTick [] s.keyLines).events.pulseLeft, by omega⟩
  refine ⟨_, (s.scanTick [] s.keyLines).cyclesPass (s.scanTick [] s.keyLines).events.pulseLeft, exec_scanTick hs [] s.keyLines, ?_, ?_,
    Nat.sub_self (s.scanTick [] s.keyLines).events.pulseLeft⟩
  · rw [exec_pulseEnd (hstartup ▸ hs), (State.scanTick_pulse hlaw 2).1]
  · rw [exec_pulseEnd hs, hfuel, State.runPulse_toTick hcycles hreaches, (State.scanTick_pulse hlaw fuel).1]

end

/-- Settles O22: inside the interval the cycles of the pulse pass one by one, and at its end the scan tick takes over. -/
theorem attentionLineFollowsTheFlags : Obligations.AttentionLineFollowsTheFlags := by
  unfold Obligations.AttentionLineFollowsTheFlags
  intro s
  refine ⟨EventUnit.attention_level, fun f hmode => ⟨fun hset henabled => ?_, EventUnit.raise_leaves⟩, fun hpulse => ?_,
    exec_pulseEnd_held, fun hs hpulse => ⟨fun hinside => ?_, exec_pulseEnd_toTick hs⟩, ?_⟩
  · have hpulse := EventUnit.raise_starts hmode hset henabled
    have hleft : ∀ n, ((s.raise f).events.pass n).attention = decide (0 < 2 - n) := fun n => by
      rw [EventUnit.attention_pulse (e := (s.raise f).events.pass n) ((EventUnit.raise_lineMode s.events f).trans hmode), ← hpulse]
      rfl
    exact ⟨hleft 1, hleft 2⟩
  · by_cases hs : s.startup = .held
    · rw [exec_pulseEnd_held hs, ← hpulse]
    · rw [exec_pulseEnd hs, State.runPulse_of_pulseLeft_eq_zero hpulse]
  · rw [exec_pulseEnd hs, State.runPulse_ends hinside, State.cyclesPass, EventUnit.pass, Nat.sub_self]
  · by_cases hs : s.startup = .held
    · exact ⟨_, exec_pulseEnd_held hs⟩
    · exact ⟨_, exec_pulseEnd hs⟩

end Sys2Proof.Machine
end

section
/-! PROOFS. A frame start as a whole (O35): the table that the commit leaves, the record and the plan made from it, and the causes raised. -/

namespace Sys2Proof.Machine

section
variable {s t : State} {k : ScreenId}

/-- A plan is made from the windows, the inputs, and the settings of its screen (R45). -/
theorem State.makePlan_congr (hwindows : t.windows = s.windows) (hinputs : t.inputs = s.inputs)
    (hformat : t.screens[k].format = s.screens[k].format) (hbackground : t.screens[k].background = s.screens[k].background) :
    t.makePlan k = s.makePlan k := by
  have hlist : t.shownList k = s.shownList k := by rw [State.shownList, hwindows, State.shownList]
  have hpicture : ∀ f i, t.pictureOf f i = s.pictureOf f i := fun f i => by
    cases i with
    | none => rfl
    | some i => rw [State.pictureOf, hinputs, State.pictureOf]
  have hentry : ∀ width height h, t.planWindow width height h = s.planWindow width height h := fun width height h => by
    unfold State.planWindow State.fromSideOf
    simp only [hwindows, hpicture]
  unfold State.makePlan
  simp only [hformat, hbackground, hlist, hentry]

/-- The table of windows and the stages as a frame start of screen k leaves them, its screen record not yet renewed (R86). -/
def State.tableFramed (s : State) (k : ScreenId) : State :=
  { s.setStage k s.stages[k].afterFrame with windows := s.frameWindows k }

theorem State.beginFrame_eq (s : State) (k : ScreenId) :
    s.beginFrame k =
      (((s.framed k).raiseIf (anyEntersSlated s.windows (s.frameWindows k)) .slated).raiseIf
        s.screens[k].probe.isWaiting .probe).raiseIf ((s.tableFramed k).wakes k) .standby := rfl

theorem State.beginFrame_frame (s : State) (k : ScreenId) : s.beginFrame k = { s.framed k with events := (s.beginFrame k).events } := by
  rw [State.beginFrame_eq]
  simp only [State.raiseIf_eq]

theorem State.beginFrame_windows (s : State) (k : ScreenId) : (s.beginFrame k).windows = s.frameWindows k := by
  rw [State.beginFrame_frame]
  rfl

theorem State.beginFrame_stages (s : State) (k : ScreenId) : (s.beginFrame k).stages = s.stages.set k s.stages[k].afterFrame := by
  rw [State.beginFrame_frame]
  rfl

theorem State.beginFrame_screens (s : State) (k : ScreenId) :
    (s.beginFrame k).screens = s.screens.set k ((s.tableFramed k).frameScreen k) := by
  rw [State.beginFrame_frame]
  rfl

theorem State.beginFrame_screen (s : State) (k : ScreenId) : (s.beginFrame k).screens[k] = (s.tableFramed k).frameScreen k := by
  rw [State.beginFrame_screens]
  exact vector_get_set_self ..

theorem State.beginFrame_window (s : State) (k : ScreenId) (h : Handle) :
    (s.beginFrame k).windows[h] = if s.windows[h].belongsTo k then s.frameWindow k s.windows[h] else s.windows[h] := by
  rw [State.beginFrame_windows]
  exact s.frameWindows_get k h

theorem State.beginFrame_makePlan (s : State) (k : ScreenId) : (s.tableFramed k).makePlan k = (s.beginFrame k).makePlan k := by
  refine (State.makePlan_congr (s := s.tableFramed k) (s.beginFrame_windows k) (s.beginFrame_inputs k) ?_ ?_).symm
  · rw [s.beginFrame_screen k]
    rfl
  · rw [s.beginFrame_screen k]
    rfl

theorem State.tableFramed_showsOn (s : State) (k : ScreenId) : (s.tableFramed k).hasShown k = true ↔ (s.beginFrame k).showsOn k := by
  refine (State.showsOn_iff (s := s.tableFramed k)).symm.trans ?_
  unfold State.showsOn
  rw [s.beginFrame_windows k]
  rfl

theorem State.beginFrame_onlyRaised (s : State) (k : ScreenId) : s.events.onlyRaised (s.beginFrame k).events :=
  EventUnit.onlyRaised_trans
    (EventUnit.onlyRaised_trans ((s.framed k).raiseIf_onlyRaised _ .slated) (State.raiseIf_onlyRaised _ _ .probe))
    (State.raiseIf_onlyRaised _ _ .standby)

theorem anyEntersSlated_iff {before after : Vector Window 64} :
    anyEntersSlated before after = true ↔ ∃ h : Handle, after[h].mode = some .slated ∧ before[h].mode ≠ some .slated := by
  simp only [anyEntersSlated, any_finRange_iff, entersSlated, decide_eq_true_iff]

theorem State.tableFramed_wakes (s : State) (k : ScreenId) :
    (s.tableFramed k).wakes k = true ↔ s.screens[k].mode = .standby ∧ (s.beginFrame k).showsOn k := by
  rw [State.wakes, Bool.and_eq_true, decide_eq_true_iff, State.tableFramed_showsOn]
  rfl

theorem State.beginFrame_isSet (s : State) (k : ScreenId) (f : Flag) :
    (s.beginFrame k).events.isSet f = true ↔ s.events.isSet f = true ∨
      (f = .slated ∧ ∃ h : Handle, (s.beginFrame k).windows[h].mode = some .slated ∧ s.windows[h].mode ≠ some .slated) ∨
      (f = .probe ∧ s.screens[k].probe.isWaiting = true) ∨
      (f = .standby ∧ s.screens[k].mode = .standby ∧ (s.beginFrame k).showsOn k) := by
  rw [State.beginFrame_eq]
  simp only [State.raiseIf_isSet, Bool.or_eq_true, Bool.and_eq_true, decide_eq_true_iff]
  rw [State.tableFramed_wakes, anyEntersSlated_iff, ← State.beginFrame_eq, s.beginFrame_windows k]
  show ((s.events.isSet f = true ∨ _) ∨ _) ∨ _ ↔ _
  rw [or_assoc, or_assoc, and_comm, @and_comm _ (Flag.probe = f), @and_comm _ (Flag.standby = f), @eq_comm _ Flag.slated,
    @eq_comm _ Flag.probe, @eq_comm _ Flag.standby]

theorem exec_frameStart (h : s.screens[k].mode ≠ .off) : exec (.frameStart k) s = .next (s.beginFrame k) :=
  congrArg Host.Outcome.next (if_neg h)

theorem exec_frameStart_off (h : s.screens[k].mode = .off) : exec (.frameStart k) s = .next s := congrArg Host.Outcome.next (if_pos h)

theorem ProbeSlot.atFrame_idle {p : ProbeSlot} (h : p.isWaiting = false) (plan : Plan) (frame : BitVec 16) : p.atFrame plan frame = p := by
  cases p with
  | waiting x y => cases h
  | empty => rfl
  | answered a => rfl

end

/-- Settles O35: the record of the screen, its plan and its pins are read from the table that the commit leaves. -/
theorem frameStartFixesTheFrame : Obligations.FrameStartFixesTheFrame := by
  unfold Obligations.FrameStartFixesTheFrame
  intro s k
  refine ⟨exec_frameStart_off, fun hmode => ⟨s.beginFrame k, exec_frameStart hmode, ?_⟩⟩
  have hscreen := s.beginFrame_screen k
  have hshown := s.tableFramed_showsOn k
  refine ⟨?frame, fun h hother => ?windows, fun g hg => ?stages, fun hsealed => ?committed, fun hopen => ?opened, ?number, ?plan, ?pins,
    fun x y hwaiting => ?waiting, fun hidle => ?idle, fun hshows => ?shows, fun hnone => ?hides, ?settings, s.beginFrame_onlyRaised k,
    s.beginFrame_isSet k⟩
  case frame =>
    rw [hscreen, s.beginFrame_windows k, s.beginFrame_stages k]
    exact s.beginFrame_frame k
  case windows =>
    rw [s.beginFrame_window k h]
    exact if_neg (mt Window.belongsTo_iff.mp hother)
  case stages =>
    rw [s.beginFrame_stages k]
    exact vector_get_set_ne _ _ hg.symm
  case committed =>
    rw [s.beginFrame_stages k]
    exact (vector_get_set_self ..).trans (Stage.afterFrame_of_commits (Stage.commits_iff.mpr hsealed))
  case opened =>
    rw [s.beginFrame_stages k]
    exact (vector_get_set_self ..).trans
      (Stage.afterFrame_of_not_commits (Bool.eq_false_iff.mpr (mt Stage.commits_iff.mp hopen)))
  case number =>
    rw [hscreen]
    rfl
  case plan =>
    rw [hscreen, ← s.beginFrame_makePlan k]
    rfl
  case pins =>
    intro i j
    rw [hscreen, ← s.beginFrame_makePlan k]
    exact State.takePins_iff
  case waiting =>
    rw [hscreen, ← s.beginFrame_makePlan k]
    show s.screens[k].probe.atFrame _ _ = _
    rw [hwaiting]
    rfl
  case idle =>
    rw [hscreen]
    exact ProbeSlot.atFrame_idle hidle _ _
  case shows =>
    rw [hscreen]
    exact ⟨if_pos (hshown.mpr hshows), if_pos (hshown.mpr hshows)⟩
  case hides =>
    rw [hscreen]
    exact ⟨if_neg (mt hshown.mp hnone), if_neg (mt hshown.mp hnone)⟩
  case settings =>
    rw [hscreen]
    exact ⟨rfl, rfl, rfl, rfl, rfl⟩

end Sys2Proof.Machine
end

section
/-! PROOFS. A frame start at one window (O38, O39, O40): what the commit makes of it, its transition, and its refresh. -/

namespace Sys2Proof.Machine

/-! ### Presence and the frame start's rows -/

section
variable {s : State} {k : ScreenId} {h : Handle}

theorem State.inputPresent_iff {i : InputId} : s.inputPresent i = true ↔ ∃ z, s.inputs[i].presence = .present z := by
  rw [State.inputPresent]
  cases s.inputs[i].presence <;> simp [Presence.isPresent]

theorem State.inputPresent_false {i : InputId} : s.inputPresent i = false ↔ ∀ z, s.inputs[i].presence ≠ .present z := by
  rw [← Bool.not_eq_true, State.inputPresent_iff, not_exists]

/-- The windows of its screen are as the frame start makes them (R39, R66, R115). -/
theorem State.beginFrame_own (hscreen : s.windows[h].screen = some k) :
    (s.beginFrame k).windows[h] = s.windowFrame s.screens[k].plan.isNone s.stages[k].commits s.windows[h] := by
  rw [s.beginFrame_window k h, if_pos (Window.belongsTo_iff.mpr hscreen)]
  rfl

end

/-! ### One window -/

section
variable {s : State} {first committing : Bool} {c f : WindowFields} {w w' : Work} {v v' : View} {x x' : Option LiveTransition} {o : FadeOut}

theorem State.retireFrame_free (hfade : c.fade.val = 0) : s.retireFrame c v x = .free := if_pos hfade

theorem State.retireFrame_fades (hfade : c.fade.val ≠ 0) :
    s.retireFrame c v x = .retiring c (s.refresh c v.effective (some v)) ⟨1, c.fade, startingWeight x⟩ := if_neg hfade

/-- A FADE-IN that the retirement meets gives its weight; it has 64 past its last step, and so has any other window (R68, R70 to R72). -/
theorem startingWeight_rows (x : Option LiveTransition) :
    (∀ a n, x = some (.fadeIn a n) → a < n → startingWeight x = 64 * a / n) ∧
      ((∀ a n, x = some (.fadeIn a n) → n ≤ a) → startingWeight x = 64) := by
  refine ⟨fun a n hx hlt => ?_, fun hlast => ?_⟩
  · rw [hx]
    exact if_pos hlt
  · rcases x with _ | ⟨a, n⟩ | ⟨a, n, i⟩
    · rfl
    · exact if_neg (Nat.not_lt.mpr (hlast a n rfl))
    · rfl

theorem State.windowFrame_retiring_ends (h : o.n ≤ o.k) : s.windowFrame first committing (.retiring c v o) = .free := by
  have hnext : o.next = none := if_neg (Nat.not_lt.mpr h)
  simp only [State.windowFrame, hnext]

theorem State.windowFrame_retiring_steps (h : o.k < o.n) :
    s.windowFrame first committing (.retiring c v o) =
      .retiring c (s.refresh c v.effective (some v)) { o with k := o.k + 1 } := by
  have hnext : o.next = some { o with k := o.k + 1 } := if_pos h
  simp only [State.windowFrame, hnext]

/-- A LIVE window that stays LIVE is taken to its next frame with the copy that the commit leaves. -/
theorem State.windowFrame_live (h : s.windowFrame first committing (.live c w v x) = .live f w' v' x') :
    .live f w' v' x' = s.liveFrame first f w' v x := by
  have hlive : ∀ (g : WindowFields) (u : Work), s.liveFrame first g u v x = .live f w' v' x' →
      .live f w' v' x' = s.liveFrame first f w' v x := by
    intro g u heq
    have hfields := heq
    simp only [State.liveFrame, Window.live.injEq] at hfields
    obtain ⟨rfl, rfl, -⟩ := hfields
    exact heq.symm
  cases w with
  | none => exact hlive c .none h
  | amended p =>
    cases committing with
    | true => exact hlive p .none h
    | false => exact hlive c (.amended p) h
  | retire =>
    cases committing with
    | true =>
      change s.retireFrame c v x = _ at h
      by_cases hfade : c.fade.val = 0
      · rw [State.retireFrame_free hfade] at h
        cases h
      · rw [State.retireFrame_fades hfade] at h
        cases h
    | false => exact hlive c .retire h

/-- What a window shows after a frame start is a refresh of what it showed before (R115). -/
theorem State.windowFrame_shown {b : Window} (h : (s.windowFrame first committing b).shown = some (f, v)) :
    ∃ e, v = s.refresh f e b.view := by
  cases b with
  | free => cases h
  | staged p =>
    cases committing with
    | true =>
      cases h
      exact ⟨_, rfl⟩
    | false => cases h
  | live c w y x =>
    cases w with
    | none =>
      cases h
      exact ⟨_, rfl⟩
    | amended p =>
      cases committing with
      | true | false =>
        cases h
        exact ⟨_, rfl⟩
    | retire =>
      cases committing with
      | true =>
        change (s.retireFrame c y x).shown = _ at h
        by_cases hfade : c.fade.val = 0
        · rw [State.retireFrame_free hfade] at h
          cases h
        · rw [State.retireFrame_fades hfade] at h
          cases h
          exact ⟨_, rfl⟩
      | false =>
        cases h
        exact ⟨_, rfl⟩
  | retiring c y o =>
    rcases Nat.lt_or_ge o.k o.n with hsteps | hends
    · rw [State.windowFrame_retiring_steps hsteps] at h
      cases h
      exact ⟨_, rfl⟩
    · rw [State.windowFrame_retiring_ends hends] at h
      cases h

/-! ### Transitions (R66, R69, R73, R74) -/

/-- The CROSSFADE that a change of effective input starts; a cut for fade length 0 (R69). -/
def freshCrossfade (n : Fin 64) (old : Option InputId) : Option LiveTransition := if n.val = 0 then none else some (.crossfade 1 n old)

/-- A FADE-IN that goes on is not met by a change of effective input (R73). -/
theorem sourceChange_fadeIn (n : Fin 64) (old : Option InputId) (a m : Nat) :
    sourceChange n old (some (.fadeIn a m)) = some (.fadeIn a m) := rfl

theorem sourceChange_fresh {n : Fin 64} {old : Option InputId} (h : ∀ a m, x ≠ some (.fadeIn a m)) :
    sourceChange n old x = freshCrossfade n old := by
  rcases x with _ | ⟨a, m⟩ | ⟨a, m, i⟩
  · rfl
  · exact absurd rfl (h a m)
  · rfl

theorem LiveTransition.next_fadeIn {a n : Nat} (h : a < n) : (LiveTransition.fadeIn a n).next = some (.fadeIn (a + 1) n) := if_pos h

theorem LiveTransition.next_crossfade {a n : Nat} {i : Option InputId} (h : a < n) :
    (LiveTransition.crossfade a n i).next = some (.crossfade (a + 1) n i) := if_pos h

theorem LiveTransition.next_fadeIn_last {a n : Nat} (h : n ≤ a) : (LiveTransition.fadeIn a n).next = none := if_neg (Nat.not_lt.mpr h)

theorem LiveTransition.next_crossfade_last {a n : Nat} {i : Option InputId} (h : n ≤ a) : (LiveTransition.crossfade a n i).next = none :=
  if_neg (Nat.not_lt.mpr h)

/-- The transition of a window that stays LIVE, a change of its effective input given (R69, R73, R74). -/
theorem State.liveFrame_transition {changed : Prop} [Decidable changed] (h : .live f w' v' x' = s.liveFrame first f w' v x)
    (hchanged : changed ↔ first = false ∧ v'.effective ≠ v.effective) :
    x' = if changed then sourceChange f.fade v.effective (x.bind LiveTransition.next) else x.bind LiveTransition.next := by
  simp only [State.liveFrame, Window.live.injEq, true_and] at h
  obtain ⟨rfl, rfl⟩ := h
  refine if_congr ?_ rfl rfl
  rw [hchanged]
  exact and_congr_right fun _ => ne_comm

/-! ### Display modes (R121, R122, R125, R126) -/

variable {e : Option InputId} {i j : InputId} {old : Option View} {limit hold : Nat} {before : Option DisplayMode}

theorem State.displayMode_slate (h : f.source = .slate) : s.displayMode f e old = .colour := by
  unfold State.displayMode
  rw [h]

theorem State.displayMode_none (h : f.source ≠ .slate) : s.displayMode f none old = .slated := by
  unfold State.displayMode
  cases hsource : f.source with
  | slate => exact absurd hsource h
  | input i => rfl
  | carousel c => rfl

/-- The display mode of a window whose effective input is not PRESENT, by its loss policy (R122, R125). -/
def State.lossMode (s : State) (f : WindowFields) (i : InputId) (old : Option View) : DisplayMode :=
  match f.loss with
  | .hold limit => s.holdMode i limit ((old.map View.hold).getD 0) (View.heldMode old (some i))
  | .slate => .slated
  | .substitute j => if s.inputPresent j then .substituted else .slated

theorem State.displayMode_some (h : f.source ≠ .slate) :
    s.displayMode f (some i) old = if s.inputPresent i then .feed else s.lossMode f i old := by
  unfold State.displayMode
  cases hsource : f.source with
  | slate => exact absurd hsource h
  | input i => rfl
  | carousel c => rfl

theorem State.displayMode_feed (h : f.source ≠ .slate) (hpresent : s.inputPresent i = true) : s.displayMode f (some i) old = .feed := by
  rw [State.displayMode_some h, if_pos hpresent]

theorem State.displayMode_lost (h : f.source ≠ .slate) (hlost : s.inputPresent i = false) :
    s.displayMode f (some i) old = s.lossMode f i old := by
  rw [State.displayMode_some h, hlost]
  rfl

theorem State.lossMode_slate (h : f.loss = .slate) : s.lossMode f i old = .slated := by
  rw [State.lossMode, h]

theorem State.lossMode_substitute (h : f.loss = .substitute j) :
    s.lossMode f i old = if s.inputPresent j then .substituted else .slated := by
  rw [State.lossMode, h]

theorem State.lossMode_hold (h : f.loss = .hold limit) :
    s.lossMode f i old = s.holdMode i limit ((old.map View.hold).getD 0) (View.heldMode old (some i)) := by
  rw [State.lossMode, h]

/-- The mode shown before counts while the effective input stays the same (R122). -/
theorem View.heldMode_iff {m : DisplayMode} :
    View.heldMode old e = some m ↔ ∃ o, old = some o ∧ o.mode = m ∧ o.effective = e := by
  cases old with
  | none => simp [View.heldMode]
  | some o => simp [View.heldMode, and_comm]

theorem State.holdMode_holding : s.holdMode i limit hold (some .holding) = if limit = 0 ∨ hold < limit then .holding else .slated := rfl

theorem State.holdMode_slated : s.holdMode i limit hold (some .slated) = .slated := rfl

theorem State.holdMode_other (hholding : before ≠ some .holding) (hslated : before ≠ some .slated) :
    s.holdMode i limit hold before = if s.inputs[i].newest.isSome then .holding else .slated := by
  rcases before with _ | (_ | _ | _ | _ | _)
  · rfl
  · rfl
  · exact absurd rfl hholding
  · rfl
  · exact absurd rfl hslated
  · rfl

theorem holdAfter_reset {m : DisplayMode} {o : View} (h : o.effective ≠ e ∨ (o.mode = .holding ∧ m ≠ .holding)) :
    holdAfter (some o) e m = 0 := if_pos h

theorem holdAfter_kept {m : DisplayMode} {o : View} (heffective : o.effective = e) (hmode : o.mode = .holding → m = .holding) :
    holdAfter (some o) e m = o.hold := if_neg (not_or.mpr ⟨not_not.mpr heffective, fun ⟨ho, hm⟩ => hm (hmode ho)⟩)

end

/-- Settles O38: the commit and the step of each kind of window. -/
theorem frameStartCommitsPendingWork : Obligations.FrameStartCommitsPendingWork := by
  unfold Obligations.FrameStartCommitsPendingWork
  intro s
  refine ⟨fun _ => rfl, rfl, fun _ => rfl, fun k hmode => ⟨s.beginFrame k, exec_frameStart hmode, fun h hscreen => ?_⟩⟩
  have hframe := State.beginFrame_own hscreen
  rw [hframe]
  refine ⟨fun hsealed => ?_, fun hopen => ?_, fun c v o hw => ?_⟩
  · rw [Stage.commits_iff.mpr hsealed]
    refine ⟨fun p hw => ?_, fun c v x hw => ?_, fun c p v x hw => ?_, fun c v x hw => ?_⟩
    · rw [hw]
      exact ⟨_, rfl, rfl, rfl⟩
    · rw [hw]
      exact ⟨_, _, rfl, rfl⟩
    · rw [hw]
      exact ⟨_, _, rfl, rfl⟩
    · rw [hw]
      obtain ⟨hmeets, hplain⟩ := startingWeight_rows x
      exact ⟨State.retireFrame_free, fun hfade => ⟨_, _, State.retireFrame_fades hfade, rfl, hmeets, hplain⟩⟩
  · rw [Bool.eq_false_iff.mpr (mt Stage.commits_iff.mp hopen)]
    refine ⟨fun p hw => ?_, fun c w v x hw => ?_⟩
    · rw [hw]
      rfl
    · rw [hw]
      cases w with
      | none | amended | retire => exact ⟨_, _, rfl, rfl⟩
  · rw [hw]
    exact ⟨State.windowFrame_retiring_ends, fun hsteps => ⟨_, State.windowFrame_retiring_steps hsteps, rfl⟩⟩

/-- Settles O39: a FADE-IN that goes on keeps every change out, and any other transition gives way to a change. -/
theorem transitionsFollowChangesOfSource : Obligations.TransitionsFollowChangesOfSource := by
  unfold Obligations.TransitionsFollowChangesOfSource
  intro s k hmode
  refine ⟨s.beginFrame k, exec_frameStart hmode, ?_⟩
  intro h c c' w w' v v' x x' hscreen hbefore hafter changed fresh
  have hown : s.windows[h].screen = some k := by rw [hbefore, ← hscreen]; rfl
  rw [State.beginFrame_own hown, hbefore] at hafter
  have hchanged : changed ↔ s.screens[k].plan.isNone = false ∧ v'.effective ≠ v.effective := by
    refine and_congr ?_ Iff.rfl
    cases s.screens[k].plan <;> simp
  classical
  have htransition := State.liveFrame_transition (State.windowFrame_live hafter) hchanged
  rw [htransition]
  have hfresh : ∀ {y : Option LiveTransition}, (∀ a m, y ≠ some (.fadeIn a m)) → changed →
      (if changed then sourceChange c'.fade v.effective y else y) = fresh := fun hy hyes => by
    rw [if_pos hyes, sourceChange_fresh hy]
    rfl
  refine ⟨fun a n hx hlt => ?_, fun a n hx hle => ?_, fun hx => ?_, fun a n i hx => ⟨fun hyes => ?_, fun hno hle => ?_, fun hno hlt => ?_⟩⟩
  · rw [hx, Option.bind_some, LiveTransition.next_fadeIn hlt, sourceChange_fadeIn, ite_self]
  · rw [hx, Option.bind_some, LiveTransition.next_fadeIn_last hle]
    exact ⟨hfresh nofun, fun hno => if_neg hno⟩
  · rw [hx, Option.bind_none]
    exact ⟨hfresh nofun, fun hno => if_neg hno⟩
  · rw [hx, Option.bind_some]
    refine hfresh (fun b m => ?_) hyes
    rw [LiveTransition.next]
    split <;> nofun
  · rw [if_neg hno, hx, Option.bind_some, LiveTransition.next_crossfade_last hle]
  · rw [if_neg hno, hx, Option.bind_some, LiveTransition.next_crossfade hlt]

/-- Settles O40: the view after a frame start is a refresh, and its mode and hold count are read row by row. -/
theorem displayModesAreDecidedInOrder : Obligations.DisplayModesAreDecidedInOrder := by
  unfold Obligations.DisplayModesAreDecidedInOrder
  intro s k hmode
  refine ⟨s.beginFrame k, exec_frameStart hmode, ?_⟩
  intro h c v hscreen hshown same
  rw [State.beginFrame_own hscreen] at hshown
  obtain ⟨e, rfl⟩ := State.windowFrame_shown hshown
  have hsame : ∀ m, same m ↔ View.heldMode s.windows[h].view e = some m := fun m => View.heldMode_iff.symm
  refine ⟨State.displayMode_slate, fun hsource => ⟨fun heffective => ?_, fun i heffective => ⟨fun hpresent => ?_, fun hlost => ?_⟩⟩,
    fun hview => ?_, fun o hview => ?_⟩
  · change e = none at heffective
    subst heffective
    exact State.displayMode_none hsource
  · change e = some i at heffective
    subst heffective
    exact State.displayMode_feed hsource (State.inputPresent_iff.mpr hpresent)
  · change e = some i at heffective
    subst heffective
    have hmode : (s.refresh c (some i) s.windows[h].view).mode = s.lossMode c i s.windows[h].view :=
      State.displayMode_lost hsource (State.inputPresent_false.mpr hlost)
    rw [hmode]
    refine ⟨State.lossMode_slate, fun j hloss => ?_, fun limit hloss => ⟨fun o hview heffective hholding => ?_, fun hslated => ?_,
      fun hnotHolding hnotSlated => ?_⟩⟩
    · rw [State.lossMode_substitute hloss]
      exact ⟨fun hj => if_pos (State.inputPresent_iff.mpr hj), fun hj => if_neg (Bool.eq_false_iff.mp (State.inputPresent_false.mpr hj))⟩
    · have hheld := View.heldMode_iff.mpr ⟨o, hview, hholding, heffective⟩
      rw [State.lossMode_hold hloss, hview, Option.map_some, Option.getD_some, ← hview]
      change View.heldMode s.windows[h].view (some i) = _ at hheld
      rw [hheld, State.holdMode_holding]
      exact ⟨fun hgoes => if_pos hgoes, fun hne hle => if_neg (not_or.mpr ⟨hne, Nat.not_lt.mpr hle⟩)⟩
    · rw [State.lossMode_hold hloss, (hsame _).mp hslated, State.holdMode_slated]
    · rw [State.lossMode_hold hloss, State.holdMode_other (mt (hsame _).mpr hnotHolding) (mt (hsame _).mpr hnotSlated)]
      exact ⟨fun hnewest => if_pos (Option.isSome_iff_ne_none.mpr hnewest),
        fun hnewest => if_neg (by rw [hnewest]; exact Bool.false_ne_true)⟩
  · show holdAfter s.windows[h].view e _ = 0
    rw [hview]
    rfl
  · have hhold : (s.refresh c e s.windows[h].view).hold = holdAfter (some o) e (s.refresh c e s.windows[h].view).mode := by
      rw [← hview]
      rfl
    rw [hhold]
    exact ⟨holdAfter_reset, holdAfter_kept⟩

end Sys2Proof.Machine
end

section
/-! PROOFS. TRANSITION_END and HOLD_END (O41): a hold ends at a window exactly where the frame start's refresh makes it SLATED. -/

namespace Sys2Proof.Machine

/-! ### TRANSITION_END -/

section
variable {s : State} {h : Handle}

theorem LiveTransition.next_isNone_iff {x : LiveTransition} :
    x.next.isNone = true ↔ ∃ a n, n ≤ a ∧ (x = .fadeIn a n ∨ ∃ i, x = .crossfade a n i) := by
  cases x <;> simp [LiveTransition.next]

theorem FadeOut.next_isNone_iff {o : FadeOut} : o.next.isNone = true ↔ o.n ≤ o.k := by
  simp [FadeOut.next]

theorem State.hasFrames_iff {w : Window} : s.hasFrames w = true ↔ ∃ k, w.screen = some k ∧ s.screens[k].mode ≠ .off := by
  unfold State.hasFrames
  cases w.screen <;> simp [-Fin.getElem_fin]

/-- The window showed the last step of its transition, on a screen that has frame starts (R66, R80). -/
def State.transitionDue (s : State) (h : Handle) : Bool := s.hasFrames s.windows[h] && s.windows[h].showedLastStep

theorem State.transitionDue_live {c : WindowFields} {w : Work} {v : View} {x : LiveTransition} (hw : s.windows[h] = .live c w v (some x)) :
    s.transitionDue h = true ↔ s.screens[c.screen].mode ≠ .off ∧ ∃ a n, n ≤ a ∧ (x = .fadeIn a n ∨ ∃ i, x = .crossfade a n i) := by
  rw [State.transitionDue, Bool.and_eq_true, hw, State.hasFrames_iff]
  refine and_congr ⟨?_, fun hmode => ⟨c.screen, rfl, hmode⟩⟩ LiveTransition.next_isNone_iff
  rintro ⟨k, hk, hmode⟩
  cases hk
  exact hmode

theorem State.transitionDue_retiring {c : WindowFields} {v : View} {o : FadeOut} (hw : s.windows[h] = .retiring c v o) :
    s.transitionDue h = true ↔ s.screens[c.screen].mode ≠ .off ∧ o.n ≤ o.k := by
  rw [State.transitionDue, Bool.and_eq_true, hw, State.hasFrames_iff]
  refine and_congr ⟨?_, fun hmode => ⟨c.screen, rfl, hmode⟩⟩ FadeOut.next_isNone_iff
  rintro ⟨k, hk, hmode⟩
  cases hk
  exact hmode

theorem exec_transitionEnd_due (hdue : s.transitionDue h = true) :
    exec (.transitionEnd h) s = .next (s.setWindow h s.windows[h].finishTransition) := congrArg Host.Outcome.next (if_pos hdue)

theorem exec_transitionEnd_idle (hidle : ¬ s.transitionDue h = true) : exec (.transitionEnd h) s = .next s :=
  congrArg Host.Outcome.next (if_neg hidle)

/-! ### HOLD_END -/

/-- The refresh with these fields and this effective input ends the hold of a view: it is HOLDING, its count at or past the limit, its
effective input the same as before and not PRESENT (R122, R124). -/
def State.endsHold (s : State) (f : WindowFields) (v : View) (e : Option InputId) : Prop :=
  v.mode = .holding ∧ f.source ≠ .slate ∧ v.effective = e ∧
    ∃ limit i, f.loss = .hold limit ∧ limit ≠ 0 ∧ limit ≤ v.hold ∧ e = some i ∧ ∀ z, s.inputs[(i : InputId)].presence ≠ .present z

variable {f : WindowFields} {v : View} {e : Option InputId}

/-- The mode that a refresh gives a HOLDING window of policy HOLD whose effective input stays and is not PRESENT (R122). -/
theorem State.refresh_holding {limit : Nat} {i : InputId} (hsource : f.source ≠ .slate) (hlost : s.inputPresent i = false)
    (hloss : f.loss = .hold limit) (hholding : v.mode = .holding) (heffective : v.effective = some i) :
    (s.refresh f (some i) (some v)).mode = if limit = 0 ∨ v.hold < limit then .holding else .slated := by
  have hmode : (s.refresh f (some i) (some v)).mode = s.displayMode f (some i) (some v) := rfl
  have hheld : View.heldMode (some v) (some i) = some .holding := View.heldMode_iff.mpr ⟨v, rfl, hholding, heffective⟩
  rw [hmode, State.displayMode_lost hsource hlost, State.lossMode_hold hloss, hheld, State.holdMode_holding, Option.map_some,
    Option.getD_some]

theorem State.endsHold_iff :
    s.endsHold f v e ↔ (∃ limit, f.loss = .hold limit) ∧
      v.mode = .holding ∧ (s.refresh f e (some v)).mode = .slated ∧ v.effective = e ∧ e ≠ none := by
  constructor
  · rintro ⟨hholding, hsource, heffective, limit, i, hloss, hne, hle, rfl, hlost⟩
    refine ⟨⟨limit, hloss⟩, hholding, ?_, heffective, Option.some_ne_none i⟩
    rw [State.refresh_holding hsource (State.inputPresent_false.mpr hlost) hloss hholding heffective]
    exact if_neg (not_or.mpr ⟨hne, Nat.not_lt.mpr hle⟩)
  · rintro ⟨⟨limit, hloss⟩, hholding, hslated, heffective, hsome⟩
    obtain ⟨i, rfl⟩ := Option.ne_none_iff_exists'.mp hsome
    have hmode : (s.refresh f (some i) (some v)).mode = s.displayMode f (some i) (some v) := rfl
    have hsource : f.source ≠ .slate := fun hslate => by
      rw [hmode, State.displayMode_slate hslate] at hslated
      cases hslated
    have hlost : s.inputPresent i = false := Bool.eq_false_iff.mpr fun hpresent => by
      rw [hmode, State.displayMode_feed hsource hpresent] at hslated
      cases hslated
    have hcount : ¬ (limit = 0 ∨ v.hold < limit) := fun hgoes => by
      rw [State.refresh_holding hsource hlost hloss hholding heffective, if_pos hgoes] at hslated
      cases hslated
    obtain ⟨hne, hlt⟩ := not_or.mp hcount
    exact ⟨hholding, hsource, heffective, limit, i, hloss, hne, Nat.not_lt.mp hlt, rfl, State.inputPresent_false.mp hlost⟩

/-- A hold ends between a window and its refresh where the refresh ends it. -/
theorem holdEnds_refresh {before after : Window} {c : WindowFields} (hbefore : before.shown = some (c, v))
    (hafter : after.shown = some (f, s.refresh f e (some v))) : holdEnds before after = true ↔ s.endsHold f v e := by
  rw [State.endsHold_iff]
  unfold holdEnds
  rw [hbefore, hafter]
  dsimp only
  split
  · rename_i limit hloss
    rw [decide_eq_true_iff, and_iff_right (⟨limit, hloss⟩ : ∃ n, f.loss = .hold n)]
    rfl
  all_goals
    rename_i hloss
    refine iff_of_false nofun fun ⟨⟨_, hhold⟩, _⟩ => ?_
    rw [hloss] at hhold
    cases hhold

theorem holdEnds_hidden {before after : Window} (h : after.shown = none) : ¬ holdEnds before after = true := by
  unfold holdEnds
  rw [h]
  cases before.shown <;> nofun

theorem State.holdDue_iff {k : ScreenId} (hscreen : s.windows[h].screen = some k) :
    s.holdDue h = true ↔ s.screens[k].mode ≠ .off ∧
      holdEnds s.windows[h] (s.windowFrame s.screens[k].plan.isNone s.stages[k].commits s.windows[h]) = true := by
  unfold State.holdDue
  rw [hscreen]
  simp only [Bool.and_eq_true, decide_eq_true_iff, State.frameWindow]

variable {c : WindowFields} {w : Work} {x : Option LiveTransition} {o : FadeOut} {first : Bool}

theorem holdEnds_live {b : Bool} :
    holdEnds (.live c w v x) (s.windowFrame first b (.live c w v x)) = true ↔
      (b = true ∧ ∃ p, w = .amended p ∧ s.endsHold p v (s.designated p.source)) ∨
      (b = true ∧ w = .retire ∧ c.fade.val ≠ 0 ∧ s.endsHold c v v.effective) ∨
      ((¬ b = true ∨ w = .none) ∧ s.endsHold c v (s.designated c.source)) := by
  have hlive : ∀ (g : WindowFields) (u : Work),
      holdEnds (.live c w v x) (s.liveFrame first g u v x) = true ↔ s.endsHold g v (s.designated g.source) := fun g u =>
    holdEnds_refresh (c := c) rfl rfl
  cases b with
  | false =>
    have hframe : s.windowFrame first false (.live c w v x) = s.liveFrame first c w v x := by cases w <;> rfl
    rw [hframe, hlive]
    simp
  | true =>
    cases w with
    | none => exact (hlive c .none).trans (by simp)
    | amended p => exact (hlive p .none).trans (by simp)
    | retire =>
      show holdEnds (.live c .retire v x) (s.retireFrame c v x) = true ↔ _
      by_cases hfade : c.fade.val = 0
      · rw [State.retireFrame_free hfade]
        simp [holdEnds_hidden (before := .live c .retire v x) (after := .free) rfl, hfade]
      · rw [State.retireFrame_fades hfade, holdEnds_refresh (s := s) (c := c) (f := c) (v := v) (e := v.effective) rfl rfl]
        simp [hfade]

theorem holdEnds_retiring {b : Bool} :
    holdEnds (.retiring c v o) (s.windowFrame first b (.retiring c v o)) = true ↔ o.k < o.n ∧ s.endsHold c v v.effective := by
  rcases Nat.lt_or_ge o.k o.n with hsteps | hends
  · rw [State.windowFrame_retiring_steps hsteps, holdEnds_refresh (s := s) (c := c) (f := c) (v := v) (e := v.effective) rfl rfl]
    exact (and_iff_right hsteps).symm
  · rw [State.windowFrame_retiring_ends hends]
    exact iff_of_false (holdEnds_hidden rfl) fun ⟨hlt, _⟩ => Nat.not_lt.mpr hends hlt

theorem State.holdDue_live (hw : s.windows[h] = .live c w v x) :
    s.holdDue h = true ↔
      (s.stages[c.screen].isSealed ∧ ∃ p, w = .amended p ∧ s.screens[c.screen].mode ≠ .off ∧ s.endsHold p v (s.designated p.source)) ∨
      (s.stages[c.screen].isSealed ∧ w = .retire ∧ c.fade.val ≠ 0 ∧ s.screens[c.screen].mode ≠ .off ∧ s.endsHold c v v.effective) ∨
      ((¬ s.stages[c.screen].isSealed ∨ w = .none) ∧ s.screens[c.screen].mode ≠ .off ∧ s.endsHold c v (s.designated c.source)) := by
  have hscreen : s.windows[h].screen = some c.screen := by rw [hw]; rfl
  rw [State.holdDue_iff hscreen, hw, holdEnds_live, Stage.commits_iff]
  by_cases hmode : s.screens[c.screen].mode = .off
  · simp only [hmode, ne_eq, not_true_eq_false, false_and, and_false, exists_false, or_false]
  · simp only [hmode, ne_eq, not_false_eq_true, true_and]

theorem State.holdDue_retiring (hw : s.windows[h] = .retiring c v o) :
    s.holdDue h = true ↔ o.k < o.n ∧ s.screens[c.screen].mode ≠ .off ∧ s.endsHold c v v.effective := by
  have hscreen : s.windows[h].screen = some c.screen := by rw [hw]; rfl
  rw [State.holdDue_iff hscreen, hw, holdEnds_retiring]
  exact and_left_comm

/-- A window that is not shown holds nothing. -/
theorem State.holdDue_hidden (hw : s.windows[h].shown = none) : ¬ s.holdDue h = true := by
  unfold State.holdDue
  split
  · nofun
  · rw [Bool.and_eq_true, not_and]
    unfold holdEnds
    rw [hw]
    nofun

theorem exec_holdEnd_due (hdue : s.holdDue h = true) :
    exec (.holdEnd h) s = .next ((s.setWindow h s.windows[h].toSlated).raise .slated) := congrArg Host.Outcome.next (if_pos hdue)

theorem exec_holdEnd_idle (hidle : ¬ s.holdDue h = true) : exec (.holdEnd h) s = .next s :=
  congrArg Host.Outcome.next (if_neg hidle)

end

/-- Settles O41: both rows by the kind of the window. -/
theorem endsComeAtTheirWindows : Obligations.EndsComeAtTheirWindows := by
  unfold Obligations.EndsComeAtTheirWindows
  intro s h last
  refine ⟨fun c w v x hw hmode hlast => ?_, fun c v o hw hmode hle => ?_, fun hlive hretiring => ?_, ?_⟩
  · rw [exec_transitionEnd_due ((State.transitionDue_live hw).mpr ⟨hmode, hlast⟩), hw]
    rfl
  · rw [exec_transitionEnd_due ((State.transitionDue_retiring hw).mpr ⟨hmode, hle⟩), hw]
    rfl
  · refine exec_transitionEnd_idle fun hdue => ?_
    cases hw : s.windows[h] with
    | free | staged p =>
      rw [State.transitionDue, hw, Bool.and_eq_true] at hdue
      exact nomatch hdue.2
    | live c w v x =>
      cases x with
      | none =>
        rw [State.transitionDue, hw, Bool.and_eq_true] at hdue
        exact nomatch hdue.2
      | some x =>
        obtain ⟨hmode, hlast⟩ := (State.transitionDue_live hw).mp hdue
        exact hlive c w v x hw hmode hlast
    | retiring c v o =>
      obtain ⟨hmode, hle⟩ := (State.transitionDue_retiring hw).mp hdue
      exact Nat.not_lt.mpr hle (hretiring c v o hw hmode)
  · intro finished liveEnds
    refine ⟨fun c w v x hw hends => ?_, fun c v o hw hlt hends => ?_, fun hlive hretiring => ?_⟩
    · rw [exec_holdEnd_due ((State.holdDue_live hw).mpr hends), hw]
      rfl
    · rw [exec_holdEnd_due ((State.holdDue_retiring hw).mpr ⟨hlt, hends⟩), hw]
      rfl
    · refine exec_holdEnd_idle fun hdue => ?_
      cases hw : s.windows[h] with
      | free | staged p => exact State.holdDue_hidden (by rw [hw]; rfl) hdue
      | live c w v x => exact hlive c w v x hw ((State.holdDue_live hw).mp hdue)
      | retiring c v o =>
        obtain ⟨hlt, hends⟩ := (State.holdDue_retiring hw).mp hdue
        exact hretiring c v o hw hlt hends

end Sys2Proof.Machine
end

section
/-! PROOFS. The plan of a screen (O36): its entries one by one, and their order. -/

namespace Sys2Proof.Machine

section
variable {s : State} {k : ScreenId} {h : Handle} {f : WindowFields} {v : View} {width height : Nat}

/-- The entry of a shown window (R45). -/
def State.planEntry (s : State) (width height : Nat) (h : Handle) (f : WindowFields) (v : View) : PlanWindow :=
  { handle := h
    layer := f.layer
    rect := f.rect
    clip := clipTo f.rect width height
    borderWidth := f.borderWidth
    borderColour := f.borderColour
    opacity := s.windows[h].effectiveOpacity
    mode := v.mode
    picture := s.pictureOf f (pictureInput f v)
    fromSide := s.fromSideOf s.windows[h] }

theorem State.planWindow_shown (hshown : s.windows[h].shown = some (f, v)) :
    s.planWindow width height h = some (s.planEntry width height h f v) := by
  unfold State.planWindow
  rw [hshown]
  rfl

theorem State.mem_makePlan_shown {w : PlanWindow} :
    w ∈ (s.makePlan k).windows ↔ ∃ h f v, s.windows[(h : Handle)].shown = some (f, v) ∧ s.windows[h].screen = some k ∧
      w = s.planEntry (s.makePlan k).width (s.makePlan k).height h f v := by
  rw [State.mem_makePlan]
  constructor
  · rintro ⟨h, ⟨hshown, hbelongs⟩, hw⟩
    obtain ⟨⟨f, v⟩, hfv⟩ := Window.shown_iff.mp hshown
    rw [State.planWindow_shown hfv] at hw
    exact ⟨h, f, v, hfv, Window.belongsTo_iff.mp hbelongs, (Option.some.inj hw).symm⟩
  · rintro ⟨h, f, v, hfv, hscreen, rfl⟩
    exact ⟨h, ⟨Window.shown_iff.mpr ⟨_, hfv⟩, Window.belongsTo_iff.mpr hscreen⟩, State.planWindow_shown hfv⟩

theorem Window.listLayer_shown {w : Window} (hshown : w.shown = some (f, v)) : w.listLayer = some f.layer := by
  cases w with
  | free | staged => cases hshown
  | live | retiring =>
    cases hshown
    rfl

/-- The shown windows are listed in strictly ascending stacking key (R5, R47). -/
theorem State.makePlan_pairwise (s : State) (k : ScreenId) :
    (s.makePlan k).windows.Pairwise fun a b => stacksBelow (a.layer, a.handle) (b.layer, b.handle) := by
  refine List.pairwise_filterMap.mpr ((stackOrder_pairwise _).imp ?_)
  rintro g h ⟨x, y, hg, hh, hlt⟩ a ha b hb
  have hentry : ∀ {g : Handle} {x : Fin 16} {a : PlanWindow},
      (if s.windows[g].isShown && s.windows[g].belongsTo k then s.windows[g].listLayer else none) = some x →
      s.planWindow s.screens[k].format.width s.screens[k].format.height g = some a → a.layer = x ∧ a.handle = g := by
    intro g x a hlayer hplan
    obtain ⟨hlisted, hlayer⟩ := Option.ite_none_right_eq_some.mp hlayer
    obtain ⟨⟨f, v⟩, hfv⟩ := Window.shown_iff.mp (Bool.and_eq_true_iff.mp hlisted).1
    rw [State.planWindow_shown hfv] at hplan
    cases hplan
    rw [Window.listLayer_shown hfv] at hlayer
    exact ⟨Option.some.inj hlayer, rfl⟩
  obtain ⟨rfl, rfl⟩ := hentry hg ha
  obtain ⟨rfl, rfl⟩ := hentry hh hb
  exact hlt

/-! ### Clip, crop and picture -/

theorem clipTo_beyond {r : Rect} (h : width ≤ r.x0.val ∨ height ≤ r.y0.val) : clipTo r width height = none :=
  if_neg fun ⟨hx, hy⟩ => h.elim (Nat.not_le.mpr hx) (Nat.not_le.mpr hy)

theorem clipTo_inside {r : Rect} (hx : r.x0.val < width) (hy : r.y0.val < height) :
    clipTo r width height = some ⟨r.x0, r.y0, min r.x1 (width - 1), min r.y1 (height - 1)⟩ := if_pos ⟨hx, hy⟩

theorem resolveCrop_whole {origin size source : Nat} (h : size = 0) : resolveCrop origin size source = (0, source) := if_pos h

theorem resolveCrop_part {origin size source : Nat} (h : size ≠ 0) : resolveCrop origin size source = (origin, size) := if_neg h

/-- The picture of a slot for a window: the size tag of the slot, the crop resolved against it, and the steps over the window's sides. -/
theorem slotPicture_fields (f : WindowFields) (i : InputId) (j : SlotId) (tag : Size) :
    let q := slotPicture f i j tag
    q.input = i ∧ q.slot = j ∧ q.sw = tag.width ∧ q.sh = tag.height ∧
      (f.crop.cw.val = 0 → q.cx = 0 ∧ q.cw = q.sw) ∧ (f.crop.cw.val ≠ 0 → q.cx = f.crop.cx.val ∧ q.cw = f.crop.cw.val) ∧
      (f.crop.ch.val = 0 → q.cy = 0 ∧ q.ch = q.sh) ∧ (f.crop.ch.val ≠ 0 → q.cy = f.crop.cy.val ∧ q.ch = f.crop.ch.val) ∧
      q.h = max 256 (min 32768 (q.cw * 4096 / (f.rect.x1.val - f.rect.x0.val + 1))) ∧
      q.v = max 256 (min 32768 (q.ch * 4096 / (f.rect.y1.val - f.rect.y0.val + 1))) := by
  intro q
  have hwhole : ∀ {origin size source : Nat}, size = 0 →
      (resolveCrop origin size source).1 = 0 ∧ (resolveCrop origin size source).2 = source := fun h => by
    rw [resolveCrop_whole h]
    exact ⟨rfl, rfl⟩
  have hpart : ∀ {origin size source : Nat}, size ≠ 0 →
      (resolveCrop origin size source).1 = origin ∧ (resolveCrop origin size source).2 = size := fun h => by
    rw [resolveCrop_part h]
    exact ⟨rfl, rfl⟩
  exact ⟨rfl, rfl, rfl, rfl, hwhole, hpart, hwhole, hpart, rfl, rfl⟩

theorem State.pictureOf_none (s : State) (f : WindowFields) : s.pictureOf f none = .plain f.slateColour := rfl

theorem State.pictureOf_empty {i : InputId} (hnewest : s.inputs[i].newest = none) : s.pictureOf f (some i) = .plain f.slateColour := by
  unfold State.pictureOf
  dsimp only
  rw [hnewest]

theorem State.pictureOf_newest {i : InputId} {j : SlotId} (hnewest : s.inputs[i].newest = some j) :
    s.pictureOf f (some i) = .slot (slotPicture f i j s.inputs[i].slots[j].tag) := by
  unfold State.pictureOf
  dsimp only
  rw [hnewest]

theorem pictureInput_own (h : v.mode = .feed ∨ v.mode = .holding) : pictureInput f v = v.effective := by
  unfold pictureInput
  rcases h with h | h <;> rw [h]

theorem pictureInput_substitute {i : InputId} (h : v.mode = .substituted) (hloss : f.loss = .substitute i) : pictureInput f v = some i := by
  unfold pictureInput
  rw [h, hloss]

theorem pictureInput_plain (h : v.mode = .slated ∨ v.mode = .colour) : pictureInput f v = none := by
  unfold pictureInput
  rcases h with h | h <;> rw [h]

theorem State.fromSideOf_none {w : Window} (h : ∀ c u z a n i, w ≠ .live c u z (some (.crossfade a n i))) : s.fromSideOf w = none := by
  cases w with
  | live c u z x =>
    rcases x with _ | ⟨a, n⟩ | ⟨a, n, i⟩
    · rfl
    · rfl
    · exact absurd rfl (h c u z a n i)
  | free | staged | retiring => rfl

end

/-- Settles O36: each entry of a plan is read from its window and from the newest slots. -/
theorem plansListTheShownWindows : Obligations.PlansListTheShownWindows := by
  unfold Obligations.PlansListTheShownWindows
  intro s k p
  refine ⟨fun hformat => ?_, fun hformat => ?_, rfl, s.makePlan_pairwise k, fun h => ⟨?_, ?_⟩, fun w hw => ?_⟩
  · show s.screens[k].format.width = 1920 ∧ s.screens[k].format.height = 1080
    rw [hformat]
    exact ⟨rfl, rfl⟩
  · show s.screens[k].format.width = 1280 ∧ s.screens[k].format.height = 720
    rw [hformat]
    exact ⟨rfl, rfl⟩
  · rintro ⟨w, hw, rfl⟩
    obtain ⟨h, f, v, hfv, hscreen, rfl⟩ := State.mem_makePlan_shown.mp hw
    exact ⟨Window.shown_iff.mpr ⟨_, hfv⟩, hscreen⟩
  · rintro ⟨hshown, hscreen⟩
    obtain ⟨⟨f, v⟩, hfv⟩ := Window.shown_iff.mp hshown
    exact ⟨_, State.mem_makePlan_shown.mpr ⟨h, f, v, hfv, hscreen, rfl⟩, rfl⟩
  · obtain ⟨h, f, v, hfv, -, rfl⟩ := State.mem_makePlan_shown.mp hw
    have hopacity : ∀ {b : Window}, s.windows[h] = b → (s.planEntry p.width p.height h f v).opacity = b.effectiveOpacity := fun hb =>
      congrArg Window.effectiveOpacity hb
    refine ⟨f, v, hfv, rfl, rfl, rfl, rfl, rfl, clipTo_beyond, clipTo_inside, fun c u z a n hb => hopacity hb,
      fun c u z hb => hopacity hb, fun c u z a n i hb => hopacity hb, fun c z o hb => hopacity hb, ?_⟩
    intro draws
    have hdraws : ∀ input, draws input (s.pictureOf f input) := by
      intro input
      refine ⟨fun hinput => by rw [hinput, State.pictureOf_none], fun i hinput => ?_⟩
      rw [hinput]
      exact ⟨State.pictureOf_empty, fun j hnewest => ⟨_, State.pictureOf_newest hnewest, slotPicture_fields f i j _⟩⟩
    have hpicture : ∀ {input}, pictureInput f v = input → draws input (s.planEntry p.width p.height h f v).picture := fun hinput =>
      hinput ▸ hdraws _
    refine ⟨fun hmode => hpicture (pictureInput_own hmode), fun i hmode hloss => hpicture (pictureInput_substitute hmode hloss),
      fun hmode => (hpicture (pictureInput_plain hmode)).1 rfl, fun c u z a n i hb => ?_, State.fromSideOf_none⟩
    have hcopy : c = f := by
      change s.windows[h] = _ at hb
      rw [hb] at hfv
      cases hfv
      rfl
    refine ⟨s.pictureOf f i, ?_, hdraws i⟩
    show s.fromSideOf s.windows[h] = _
    rw [show s.windows[h] = _ from hb, ← hcopy]
    rfl

end Sys2Proof.Machine
end

section
/-! PROOFS. The composition arithmetic (O37): rounded means, the range of every output value, and the value of a pixel. -/

namespace Sys2Proof.Machine

/-! ### Rounded means -/

section
variable {d x y p c : Nat}

/-- A mean of two values with weights x and y of sum d, rounded to nearest, halves up. -/
theorem roundedMean_bounds (hd : 0 < d) (hsum : x + y = d) :
    min p c ≤ (x * p + y * c + d / 2) / d ∧ (x * p + y * c + d / 2) / d ≤ max p c := by
  have hlow : min p c * d ≤ x * p + y * c := by
    rw [← hsum, Nat.mul_add, Nat.mul_comm x, Nat.mul_comm y]
    exact Nat.add_le_add (Nat.mul_le_mul_right x (Nat.min_le_left ..)) (Nat.mul_le_mul_right y (Nat.min_le_right ..))
  have hhigh : x * p + y * c ≤ max p c * d := by
    rw [← hsum, Nat.mul_add, Nat.mul_comm x, Nat.mul_comm y]
    exact Nat.add_le_add (Nat.mul_le_mul_right x (Nat.le_max_left ..)) (Nat.mul_le_mul_right y (Nat.le_max_right ..))
  refine ⟨(Nat.le_div_iff_mul_le hd).mpr (hlow.trans (Nat.le_add_right ..)), Nat.le_of_lt_succ ((Nat.div_lt_iff_lt_mul hd).mpr ?_)⟩
  rw [Nat.succ_mul]
  exact Nat.add_lt_add_of_le_of_lt hhigh (Nat.div_lt_self hd (by decide))

theorem division_bounds (hd : 0 < d) (n : Nat) : d * (n / d) ≤ n ∧ n < d * (n / d) + d :=
  ⟨Nat.mul_div_le n d, Nat.lt_mul_div_succ n hd⟩

end

theorem blend_rounds {a : Nat} (ha : a ≤ 64) (p c : Nat) :
    min p c ≤ blend a p c ∧ blend a p c ≤ max p c ∧
      64 * blend a p c ≤ a * p + (64 - a) * c + 32 ∧ a * p + (64 - a) * c + 32 < 64 * blend a p c + 64 := by
  obtain ⟨hlow, hhigh⟩ := roundedMean_bounds (d := 64) (p := p) (c := c) (by decide) (Nat.add_sub_cancel' ha)
  exact ⟨hlow, hhigh, division_bounds (by decide) _⟩

theorem crossMix_eq_blend (t a b : Nat) : crossMix t a b = blend t a b := rfl

theorem interpolate_rounds {f : Nat} (hf : f < 4096) (a b : Nat) :
    min a b ≤ interpolate a b f ∧ interpolate a b f ≤ max a b ∧
      4096 * interpolate a b f ≤ a * (4096 - f) + b * f + 2048 ∧
      a * (4096 - f) + b * f + 2048 < 4096 * interpolate a b f + 4096 := by
  obtain ⟨hlow, hhigh⟩ := roundedMean_bounds (d := 4096) (p := a) (c := b) (by decide) (Nat.sub_add_cancel hf.le)
  rw [Nat.mul_comm _ a, Nat.mul_comm _ b] at hlow hhigh
  exact ⟨hlow, hhigh, division_bounds (by decide) _⟩

theorem weight_last {n : Nat} (hn : 0 < n) : weight n n = 64 := Nat.mul_div_cancel 64 hn

/-! ### The range of every value -/

theorem Colour.component_le (c : Colour) (component : Component) : c.component component ≤ 255 := by
  cases component <;> exact Nat.le_of_lt_succ (BitVec.isLt _)

theorem interpolate_le {a b f : Nat} (hf : f < 4096) (ha : a ≤ 255) (hb : b ≤ 255) : interpolate a b f ≤ 255 :=
  (interpolate_rounds hf a b).2.1.trans (Nat.max_le.mpr ⟨ha, hb⟩)

theorem blend_le {a p c : Nat} (ha : a ≤ 64) (hp : p ≤ 255) (hc : c ≤ 255) : blend a p c ≤ 255 :=
  (blend_rounds ha p c).2.1.trans (Nat.max_le.mpr ⟨hp, hc⟩)

theorem SlotPicture.sample_le (q : SlotPicture) (frame : Pixels) (component : Component) (dx dy : Nat) :
    q.sample frame component dx dy ≤ 255 := by
  have hfraction : ∀ n, n % 4096 < 4096 := fun n => Nat.mod_lt n (by decide)
  have hrow : ∀ r ca cb n, interpolate ((pixelAt frame ca r).component component) ((pixelAt frame cb r).component component) (n % 4096) ≤ 255 :=
    fun r ca cb n => interpolate_le (hfraction n) (Colour.component_le ..) (Colour.component_le ..)
  exact interpolate_le (hfraction _) (hrow ..) (hrow ..)

section
variable {s : State} {w : PlanWindow} {component : Component} {x y : Nat}

theorem State.pictureValue_le (s : State) (p : Picture) (component : Component) (dx dy : Nat) : s.pictureValue p component dx dy ≤ 255 := by
  cases p with
  | plain c => exact Colour.component_le c component
  | slot q => exact q.sample_le _ component dx dy

/-- The opacity of an entry and the weight of its from-side are those of its window's transition: at most 64 (R59, R65). -/
def PlanWindow.inRange (w : PlanWindow) : Prop := w.opacity ≤ 64 ∧ ∀ f, w.fromSide = some f → f.weight ≤ 64

theorem State.windowValue_border (h : w.isBorder x y = true) : s.windowValue w component x y = w.borderColour.component component :=
  if_pos h

theorem State.windowValue_plain (h : w.isBorder x y = false) (hfrom : w.fromSide = none) :
    s.windowValue w component x y = s.pictureValue w.picture component (x - w.rect.x0) (y - w.rect.y0) := by
  rw [State.windowValue, if_neg (Bool.eq_false_iff.mp h), hfrom]

theorem State.windowValue_mix {f : FromSide} (h : w.isBorder x y = false) (hfrom : w.fromSide = some f) :
    s.windowValue w component x y =
      crossMix f.weight (s.pictureValue w.picture component (x - w.rect.x0) (y - w.rect.y0))
        (s.pictureValue f.picture component (x - w.rect.x0) (y - w.rect.y0)) := by
  rw [State.windowValue, if_neg (Bool.eq_false_iff.mp h), hfrom]

theorem State.windowValue_le (hw : w.inRange) : s.windowValue w component x y ≤ 255 := by
  obtain ⟨-, hweight⟩ := hw
  cases hborder : w.isBorder x y with
  | true =>
    rw [State.windowValue_border hborder]
    exact Colour.component_le ..
  | false =>
    cases hfrom : w.fromSide with
    | none =>
      rw [State.windowValue_plain hborder hfrom]
      exact s.pictureValue_le ..
    | some f =>
      rw [State.windowValue_mix hborder hfrom, crossMix_eq_blend]
      exact blend_le (hweight f hfrom) (s.pictureValue_le ..) (s.pictureValue_le ..)

theorem State.layOver_covered {c : Nat} (h : w.covers x y = true) :
    s.layOver component x y c w = blend w.opacity (s.windowValue w component x y) c := if_pos h

theorem State.layOver_uncovered {c : Nat} (h : w.covers x y = false) : s.layOver component x y c w = c :=
  if_neg (Bool.eq_false_iff.mp h)

theorem State.layOver_le {c : Nat} (hw : w.inRange) (hc : c ≤ 255) : s.layOver component x y c w ≤ 255 := by
  cases hcovers : w.covers x y with
  | true =>
    rw [State.layOver_covered hcovers]
    exact blend_le hw.1 (State.windowValue_le hw) hc
  | false =>
    rw [State.layOver_uncovered hcovers]
    exact hc

theorem State.planPixel_le {p : Plan} (hp : ∀ w ∈ p.windows, w.inRange) : s.planPixel p component x y ≤ 255 := by
  have hfold : ∀ (l : List PlanWindow) (c : Nat), (∀ w ∈ l, w.inRange) → c ≤ 255 → l.foldl (s.layOver component x y) c ≤ 255 := by
    intro l
    induction l with
    | nil => exact fun _ _ hc => hc
    | cons w l ih =>
      intro c hl hc
      obtain ⟨hw, hl⟩ := List.forall_mem_cons.mp hl
      exact ih _ hl (State.layOver_le hw hc)
  exact hfold p.windows _ hp (Colour.component_le ..)

end

/-! ### The entries of a plan -/

/-- An opacity scaled by a weight of at most 64 stays at most 64 (R59). -/
theorem scaled_le {a t : Nat} (ha : a ≤ 64) (ht : t ≤ 64) : a * t / 64 ≤ 64 :=
  Nat.div_le_of_le_mul (Nat.mul_le_mul ha ht)

theorem FadeOut.weight_le {o : FadeOut} (ht : o.t0 ≤ 64) : o.weight ≤ 64 := by
  refine Nat.div_le_of_le_mul ?_
  rw [Nat.mul_comm o.n]
  exact Nat.mul_le_mul ht (Nat.sub_le ..)

theorem Window.effectiveOpacity_le {w : Window} (h : w.lawfulTransition = true) : w.effectiveOpacity ≤ 64 := by
  have hopacity : ∀ c : WindowFields, c.opacity.val ≤ 64 := fun c => Nat.le_of_lt_succ c.opacity.isLt
  cases w with
  | free | staged => exact Nat.zero_le _
  | live c u v x =>
    rcases x with _ | ⟨a, n⟩ | ⟨a, n, i⟩
    · exact hopacity c
    · obtain ⟨ha, han, hn⟩ := of_decide_eq_true h
      exact scaled_le (hopacity c) (weight_range ha han hn).2
    · exact hopacity c
  | retiring c v o =>
    obtain ⟨-, -, -, -, ht⟩ := of_decide_eq_true h
    exact scaled_le (hopacity c) (FadeOut.weight_le ht)

theorem State.fromSideOf_weight_le {s : State} {w : Window} (h : w.lawfulTransition = true) {f : FromSide}
    (hf : s.fromSideOf w = some f) : f.weight ≤ 64 := by
  cases w with
  | free | staged | retiring => cases hf
  | live c u v x =>
    rcases x with _ | ⟨a, n⟩ | ⟨a, n, i⟩
    · cases hf
    · cases hf
    · obtain ⟨ha, han, hn⟩ := of_decide_eq_true h
      cases hf
      exact (weight_range ha han hn).2

theorem State.makePlan_inRange {s : State} (h : s.TransitionLaw) (k : ScreenId) {w : PlanWindow} (hw : w ∈ (s.makePlan k).windows) :
    w.inRange := by
  obtain ⟨g, f, v, -, -, rfl⟩ := State.mem_makePlan_shown.mp hw
  exact ⟨Window.effectiveOpacity_le (h g), fun _ => State.fromSideOf_weight_le (h g)⟩

theorem Size.inRange_pos {z : Size} (h : z.inRange = true) : 0 < z.width ∧ 0 < z.height := by
  obtain ⟨hwidth, -, hheight, -⟩ := of_decide_eq_true h
  exact ⟨Nat.lt_of_lt_of_le (by decide) hwidth, Nat.lt_of_lt_of_le (by decide) hheight⟩

theorem edgeLimit_lt {source : Nat} (h : 0 < source) (origin size : Nat) : edgeLimit origin size source < source :=
  (Nat.min_le_right ..).trans_lt (Nat.sub_lt h (by decide))

theorem scaleStep_range (crop side : Nat) : 256 ≤ scaleStep crop side ∧ scaleStep crop side ≤ 32768 :=
  ⟨Nat.le_max_left .., Nat.max_le.mpr ⟨by decide, Nat.min_le_left ..⟩⟩

/-! ### The value of a pixel -/

section
variable {s : State} {p : Plan} {w : PlanWindow} {component : Component} {x y : Nat}

theorem PlanWindow.covers_iff : w.covers x y = true ↔ ∃ c, w.clip = some c ∧ c.x0 ≤ x ∧ x ≤ c.x1 ∧ c.y0 ≤ y ∧ y ≤ c.y1 := by
  unfold PlanWindow.covers
  cases w.clip <;> simp

theorem State.planPixel_background (h : p.windows = []) : s.planPixel p component x y = p.background.component component := by
  rw [State.planPixel, h, List.foldl_nil]

/-- The last window is laid over what the windows below it give (R48). -/
theorem State.planPixel_top {below : List PlanWindow} (h : p.windows = below ++ [w]) :
    s.planPixel p component x y = s.layOver component x y (s.planPixel { p with windows := below } component x y) w := by
  rw [State.planPixel, h, List.foldl_append]
  rfl

end

/-- Settles O37: each mean is rounded to nearest, the values follow, and a pixel is its windows laid over one another. -/
theorem compositionStaysInRange : Obligations.CompositionStaysInRange := by
  unfold Obligations.CompositionStaysInRange
  refine ⟨fun a p c ha => blend_rounds ha p c, fun a p c ha => blend_rounds ha p c, fun a b f hf => interpolate_rounds hf a b,
    fun k n hk hkn hn => ⟨(weight_range hk hkn hn).1, (weight_range hk hkn hn).2, weight_last (hk.trans hkn)⟩, ?slot,
    fun s k component x y hlaw => State.planPixel_le fun w hw => State.makePlan_inRange hlaw k hw, ?pixel, ?output⟩
  case slot =>
    intro f i j tag htag q
    obtain ⟨hwidth, hheight⟩ := Size.inRange_pos htag
    exact ⟨edgeLimit_lt hwidth .., edgeLimit_lt hheight .., (scaleStep_range ..).1, (scaleStep_range ..).2, scaleStep_range ..⟩
  case pixel =>
    intro s p component x y
    refine ⟨State.planPixel_background, ?_⟩
    intro below w hwindows under covered border
    have htop := State.planPixel_top (s := s) (component := component) (x := x) (y := y) hwindows
    refine ⟨fun huncovered => ?_, fun hcovered => ⟨s.windowValue w component x y,
      fun picture => s.pictureValue picture component (x - w.rect.x0) (y - w.rect.y0), ?_, fun hborder => ?_, fun hinner hfrom => ?_,
      fun f hinner hfrom => ?_, fun c => rfl, fun q => rfl⟩⟩
    · rw [htop, State.layOver_uncovered (Bool.eq_false_iff.mpr (mt PlanWindow.covers_iff.mp huncovered))]
    · rw [htop, State.layOver_covered (PlanWindow.covers_iff.mpr hcovered)]
      rfl
    · exact State.windowValue_border (decide_eq_true hborder)
    · exact State.windowValue_plain (decide_eq_false hinner) hfrom
    · rw [State.windowValue_mix (decide_eq_false hinner) hfrom]
      rfl
  case output =>
    intro s k component x y
    refine ⟨fun hblank => ?_, fun p hmode hplan => ?_⟩
    · unfold State.outputPixel
      rcases hblank with hmode | hplan
      · rw [if_neg hmode]
      · rw [hplan, Option.map_none, ite_self]
    · rw [State.outputPixel, if_pos hmode, hplan, Option.map_some]

end Sys2Proof.Machine
end
